-- ==== Sys2Proof/Word.lean ====
section
/-! DEFINITION. The widths the block computes with (00_scope.md R8, R9). -/

namespace Sys2Proof

/-- A bus byte, an R1 response, a token, a CRC byte, a result code (R8). -/
abbrev Byte := BitVec 8

/-- A sample value or a DAC frame (R8). -/
abbrev Half := BitVec 16

/-- A command argument, a sector number, a byte address, a size or the played-byte counter (R8). -/
abbrev Word := BitVec 32

end Sys2Proof
end

