-- ==== Sys2Proof/Machine/Event.lean ====
section
/-! DEFINITION. The names the spec gives the block's agents, lines, answers, events, faults and refusals. -/

namespace Sys2Proof.Machine

/-- The agents that take steps of their own (00_scope.md R6). CARD and FILE answer inside CTL's steps. -/
inductive Agent where
  | host
  | ctl
  | emt
  deriving DecidableEq, Repr, Inhabited

/-- A chip-select line (10_state.md R21, R34). -/
inductive Cs where
  | asserted
  | deasserted
  deriving DecidableEq, Repr

/-- An audio buffer: A is number 0 and B number 1 (00_scope.md R10). -/
inductive BufId where
  | bufA
  | bufB
  deriving DecidableEq, Repr

/-- A host operation, without its operands (30_encoding.md R100). -/
inductive HostOp where
  | init
  | readp
  | writepInit
  | writepAppend
  | writepFinal
  | loadfmt
  | play
  deriving DecidableEq, Repr

/-- The DiskError result codes a file read may answer (20_memory.md R66, 60_exceptions.md R280; log 20). -/
inductive DiskError where
  | notInit
  | cmdRejected
  | respTimeout
  | tokenTimeout
  | tokenError
  deriving DecidableEq, Repr, Inhabited

/-- An answer of the file-read port: `Count(n, b)` with `n` the number of bytes, or `Error(e)` (20_memory.md R66). -/
inductive FileAnswer where
  | count (bytes : List Byte)
  | error (e : DiskError)
  deriving DecidableEq, Repr, Inhabited

/-- An event of the history (10_state.md R36). -/
inductive Event where
  | busX (cs : Cs) (out inp : Byte)
  | csAssert
  | csDeassert
  | fileRead (k : BufId) (len : Nat) (answer : FileAnswer)
  | dacFrame (w : Half)
  | arm
  | disarm
  /-- `Issue(op, operands)`: the code byte and the operand bytes as the line held them. -/
  | issue (code : Byte) (operands : List Byte)
  /-- `Done(op, result)`. -/
  | done (op : Option HostOp) (result : Byte)
  deriving DecidableEq, Repr

/-- The kinds `FAULT` may hold (60_exceptions.md R290). -/
inductive FaultKind where
  | readBeforeInit
  | readRange
  | underrun
  | emptyRange
  | splitSample
  | playedWrap
  deriving DecidableEq, Repr

/-- Why the state is refused (60_exceptions.md R294). -/
inductive RefuseReason where
  | reservedOp
  | writeUnspecified
  | formatUnmodelled
  | reservedReg
  deriving DecidableEq, Repr

/-- What a tick does when the active range is exhausted while a refill is pending (70_reset_and_hazards.md R328). -/
inductive UnderrunMode where
  | fault
  | hold
  deriving DecidableEq, Repr

/-- A line of the host program: an operation's bytes (30_encoding.md R102), or a register to read (10_state.md R37; log 16). -/
inductive HostLine where
  | issue (bytes : List Byte)
  | read (reg : Byte)
  deriving DecidableEq, Repr

end Sys2Proof.Machine
end

