-- ==== Sys2Proof/Config.lean ====
section
/-! DEFINITION. What an implementation fixes (00_scope.md R7) and the free values.

The parameters are plain data that a launch fixes (70_reset_and_hazards.md R335); State carries them
unchanged, so that a statement about every state is about every value of them (log 1). The three opaque
constants answer where a launch's script has ended; nothing is known of them. -/

namespace Sys2Proof

/-- The payload bytes of one data block, the one fixed parameter (00_scope.md R7). -/
def Config.sectorBytes : Nat := 512

/-- Addresses of the host's destination memory at which a byte may be written. -/
structure AddrRange where
  base : Nat
  size : Nat
  deriving DecidableEq, Repr

/-- The implementation parameters of 00_scope.md R7 (`T_OPCOND` is time and is not kept, log 17), and the
host predicate `DestOK` of 20_memory.md R62 as the ranges where it is true (log 13). -/
structure Params where
  nPwrupBytes : Nat
  nR1 : Nat
  nOpcond : Nat
  nToken : Nat
  crcPlaceholder : Byte
  bufSize : Nat
  /-- `HI_BIT_MAP`: entry `j` is the bit of the high sample byte that slot `j` carries, of a kind
  `Params.admittedMap` admits (43_emitter.md R252). -/
  hiBitMap : Vector (Fin 8) 8
  dacPrefix : BitVec 4
  underrunMode : Machine.UnderrunMode
  destOk : List AddrRange
  deriving DecidableEq, Repr

/-- The Full high-byte map: slot `j` carries bit `j` (43_emitter.md R252). -/
def Params.fullMap : Vector (Fin 8) 8 := #v[0, 1, 2, 3, 4, 5, 6, 7]

/-- A Lossy high-byte map: bit 0 is in no slot, and exactly one bit is in two slots, every other bit in at most
one (43_emitter.md R252; "exactly one" so read: log 23). Which bit and which slots stay open. -/
abbrev Params.lossyMap (m : Vector (Fin 8) 8) : Prop :=
  m.toList.count 0 = 0 ∧ ∃ i, m.toList.count i = 2 ∧ ∀ j, j ≠ i → m.toList.count j ≤ 1

/-- The two kinds of high-byte map R252 admits. -/
abbrev Params.admittedMap (m : Vector (Fin 8) 8) : Prop :=
  m = Params.fullMap ∨ Params.lossyMap m

/-- The constraints 00_scope.md R7 puts on the parameters whose value it leaves open. -/
abbrev Params.wf (p : Params) : Prop :=
  10 ≤ p.nPwrupBytes ∧ 1 ≤ p.nR1 ∧ 1 ≤ p.nOpcond ∧ 1 ≤ p.nToken ∧
  p.crcPlaceholder.getLsbD 0 = true ∧ p.bufSize % 2 = 0 ∧ 2 ≤ p.bufSize ∧
  Params.admittedMap p.hiBitMap

/-- The defaults of 00_scope.md R7. DESIGN CHOICE (log 1, log 13): unsafe for a claim that rests on one. -/
def Params.default : Params where
  nPwrupBytes := 10
  nR1 := 10
  nOpcond := 10000
  nToken := 1000
  crcPlaceholder := 0x01#8
  bufSize := 512
  hiBitMap := Params.fullMap
  dacPrefix := 0b0011#4
  underrunMode := .fault
  destOk := [⟨0, 2 ^ 32⟩]

/-- The CARD oracle where the launch's script has ended: the byte it answers to an exchange, from the
history and the byte sent (20_memory.md R64; log 2). -/
opaque Config.cardAnswer : List Machine.Event → Byte → Byte

/-- The FILE oracle where the launch's script has ended (20_memory.md R66; log 3). -/
opaque Config.fileAnswer : List Machine.Event → Machine.BufId → Nat → Machine.FileAnswer

/-- The schedule where the launch's script has ended (60_exceptions.md R305; log 4). -/
opaque Config.scheduled : Nat → Machine.Agent

end Sys2Proof
end

