-- ==== Sys2Proof/Syntax.lean ====
section
/-! DEFINITION. The instructions of the block: one constructor per row of spec/opcode_table.json.

Three formats share the type: the SD command frames U1 transmits (SDCMD48, 30_encoding.md R80, R85), the
frame U4 clocks out (DAC16, R96) and the host operations (HOSTOP, R99, R100). The CRC/stop byte of a
frame whose row leaves it open is an operand. -/

namespace Sys2Proof

/-- An instruction of the block. -/
inductive Instr where
  /-- CMD0, GO_IDLE (40_framer_and_init.md R150). -/
  | cmd0
  /-- CMD1, the non-app SEND_OP_COND (R151). -/
  | cmd1 (crc : Byte)
  /-- CMD8, SEND_IF_COND (R152). -/
  | cmd8
  /-- CMD16, SET_BLOCKLEN 512 (R153). -/
  | cmd16 (crc : Byte)
  /-- CMD17, READ_SINGLE_BLOCK at the scaled address (41_block_read.md R173). -/
  | cmd17 (addr : Word) (crc : Byte)
  /-- CMD55, APP_CMD (40_framer_and_init.md R154). -/
  | cmd55 (crc : Byte)
  /-- ACMD41.HCS, the app SEND_OP_COND with high-capacity support (R155). -/
  | acmd41Hcs (crc : Byte)
  /-- ACMD41.0, the app SEND_OP_COND with argument 0 (R156). -/
  | acmd41Zero (crc : Byte)
  /-- CMD58, READ_OCR (R157). -/
  | cmd58 (crc : Byte)
  /-- DAC_WRITE, one 16-bit DAC frame (43_emitter.md R253). -/
  | dacWrite (ctrl : BitVec 4) (data : BitVec 12)
  /-- INIT, `initialize()` (40_framer_and_init.md R130). -/
  | init
  /-- READP, `readPartialSector` (41_block_read.md R172). -/
  | readp (sector : Word) (offset count : BitVec 10) (destEn : Bool) (dest : Word)
  /-- WRITEP.INIT (41_block_read.md R180). -/
  | writepInit (n : Word)
  /-- WRITEP.APPEND (R180). -/
  | writepAppend (src len : Word)
  /-- WRITEP.FINAL (R180). -/
  | writepFinal
  /-- LOADFMT, the format handoff that stands for `openWav` (42_fifo_refill.md R200). -/
  | loadfmt (bps : Byte) (rate size : Word)
  /-- PLAY, `playWav()` (42_fifo_refill.md R205). -/
  | play
  deriving DecidableEq, Repr

end Sys2Proof
end

