-- ==== Sys2Proof/WellFormed.lean ====
section
/-! DEFINITION. Which instructions keep to the operand ranges the spec prints: a frame's end bit is 1
(30_encoding.md R80, 00_scope.md R7), and READP's offset and count are at most 512 (10_state.md R25).

An instruction outside these ranges still has a meaning: the frame is sent as it stands, and READP
reaches the READ_RANGE fault of 41_block_read.md R170. -/

namespace Sys2Proof

/-- The end (stop) bit of a CRC/stop byte is 1 (30_encoding.md R80). -/
def stopBitSet (crc : Byte) : Bool := crc.getLsbD 0

/-- A READP offset or count is 0 to 512 (10_state.md R25). -/
def withinSector (n : BitVec 10) : Bool := decide (n.toNat ≤ 512)

/-- The instruction keeps to the operand ranges of the spec. -/
def Instr.wellFormed : Instr → Bool
  | .cmd0 => true
  | .cmd1 crc => stopBitSet crc
  | .cmd8 => true
  | .cmd16 crc => stopBitSet crc
  | .cmd17 _ crc => stopBitSet crc
  | .cmd55 crc => stopBitSet crc
  | .acmd41Hcs crc => stopBitSet crc
  | .acmd41Zero crc => stopBitSet crc
  | .cmd58 crc => stopBitSet crc
  | .dacWrite _ _ => true
  | .init => true
  | .readp _ offset count _ _ => withinSector offset && withinSector count
  | .writepInit _ => true
  | .writepAppend _ _ => true
  | .writepFinal => true
  | .loadfmt _ _ _ => true
  | .play => true

end Sys2Proof
end

