-- ==== Sys2Proof/Decode.lean ====
section
/-! DEFINITION. The decoder, total on any bytes and rejecting by name, and after it the encoder, both
from the encoding tables of 30_encoding.md.

The three formats reach the block through three ports and never mix, so the port is part of what is
decoded. An SDCMD48 frame and a DAC16 frame are most significant byte first (R80, R96). A HOSTOP is the
code byte and then its operands in the order of R100; each operand fills whole bytes, most significant
byte first, the unused high bits 0 (log 7). -/

namespace Sys2Proof

/-- Where a word arrives: U1's frame, U4's frame, or HOST's issue port. -/
inductive Port where
  | sdcmd48
  | dac16
  | hostop
  deriving DecidableEq, Repr

/-- Why bytes are no instruction. -/
inductive DecodeError where
  /-- The bytes end before the word does. -/
  | truncated
  /-- Bytes stand after the one word a line holds. -/
  | trailing
  /-- A frame the block never transmits (30_encoding.md R85, R91). -/
  | unknownFrame
  /-- A host operation code 0x00 or 0x08 to 0xFF (R101). -/
  | reservedOp (code : Byte)
  /-- A bit above an operand's width is not 0 (log 7). -/
  | operandBits
  deriving DecidableEq, Repr

/-! ## Bytes and fields -/

/-- Four bytes as one word, the first the most significant (30_encoding.md R80, R82). -/
def wordOfBytes (a b c d : Byte) : Word := a ++ b ++ c ++ d

/-- A word as four bytes, the most significant first. -/
def bytesOfWord (w : Word) : List Byte :=
  [w.extractLsb' 24 8, w.extractLsb' 16 8, w.extractLsb' 8 8, w.extractLsb' 0 8]

/-- The 10-bit operand in two bytes, if the six bits above it are 0. -/
def tenOfBytes (hi lo : Byte) : Option (BitVec 10) :=
  if hi.toNat < 4 then some ((hi ++ lo).setWidth 10) else none

/-- A 10-bit operand as two bytes. -/
def bytesOfTen (n : BitVec 10) : List Byte :=
  [(n.extractLsb' 8 2).setWidth 8, n.extractLsb' 0 8]

/-- The 1-bit operand in a byte, if the seven bits above it are 0. -/
def flagOfByte (b : Byte) : Option Bool :=
  if b = 0#8 then some false else if b = 1#8 then some true else none

/-- A 1-bit operand as a byte. -/
def byteOfFlag (f : Bool) : Byte := if f then 1#8 else 0#8

/-! ## The opcode map -/

/-- `F[0] = 0x40 | idx` (30_encoding.md R80). -/
def startByte (idx : BitVec 6) : Byte := 0x40#8 ||| idx.setWidth 8

/-- The CRC/stop byte of CMD0 (R83). -/
def crcGoIdle : Byte := 0x95#8

/-- The CRC/stop byte of CMD8 (R83). -/
def crcIfCond : Byte := 0x87#8

/-- The CMD8 argument, check pattern 0x1AA (R93). -/
def argIfCond : Word := 0x000001AA#32

/-- The CMD16 argument, 512 (R94). -/
def argBlocklen : Word := 0x00000200#32

/-- The ACMD41 argument with HCS (R92). -/
def argHcs : Word := 0x40000000#32

/-- The six bytes of a command frame (R80). -/
def sdFrame (idx : BitVec 6) (arg : Word) (crc : Byte) : List Byte :=
  startByte idx :: (bytesOfWord arg ++ [crc])

/-- The host operation codes (R100). -/
def codeInit : Byte := 0x01#8
/-- READP (R100). -/
def codeReadp : Byte := 0x02#8
/-- WRITEP.INIT (R100). -/
def codeWritepInit : Byte := 0x03#8
/-- WRITEP.APPEND (R100). -/
def codeWritepAppend : Byte := 0x04#8
/-- WRITEP.FINAL (R100). -/
def codeWritepFinal : Byte := 0x05#8
/-- LOADFMT (R100). -/
def codeLoadfmt : Byte := 0x06#8
/-- PLAY (R100). -/
def codePlay : Byte := 0x07#8

/-! ## Decoding -/

/-- A command frame from its start byte, argument and CRC/stop byte (R83, R85). -/
def decodeFrame (start : Byte) (arg : Word) (crc : Byte) : Except DecodeError Instr :=
  if start = startByte 0 ∧ arg = 0#32 ∧ crc = crcGoIdle then .ok .cmd0
  else if start = startByte 1 ∧ arg = 0#32 then .ok (.cmd1 crc)
  else if start = startByte 8 ∧ arg = argIfCond ∧ crc = crcIfCond then .ok .cmd8
  else if start = startByte 16 ∧ arg = argBlocklen then .ok (.cmd16 crc)
  else if start = startByte 17 then .ok (.cmd17 arg crc)
  else if start = startByte 55 ∧ arg = 0#32 then .ok (.cmd55 crc)
  else if start = startByte 41 ∧ arg = argHcs then .ok (.acmd41Hcs crc)
  else if start = startByte 41 ∧ arg = 0#32 then .ok (.acmd41Zero crc)
  else if start = startByte 58 ∧ arg = 0#32 then .ok (.cmd58 crc)
  else .error .unknownFrame

/-- The first command frame of the bytes, and the bytes after it. -/
def decodeSd : List Byte → Except DecodeError (Instr × List Byte)
  | f0 :: f1 :: f2 :: f3 :: f4 :: f5 :: rest =>
    match decodeFrame f0 (wordOfBytes f1 f2 f3 f4) f5 with
    | .ok i => .ok (i, rest)
    | .error e => .error e
  | _ => .error .truncated

/-- The first DAC frame of the bytes: 4 control bits and 12 data bits (R96). -/
def decodeDac : List Byte → Except DecodeError (Instr × List Byte)
  | hi :: lo :: rest =>
    .ok (.dacWrite (hi.extractLsb' 4 4) (hi.extractLsb' 0 4 ++ lo), rest)
  | _ => .error .truncated

/-- READP's operands (R100). -/
def decodeReadp : List Byte → Except DecodeError (Instr × List Byte)
  | s3 :: s2 :: s1 :: s0 :: o1 :: o0 :: c1 :: c0 :: e :: d3 :: d2 :: d1 :: d0 :: rest =>
    match tenOfBytes o1 o0, tenOfBytes c1 c0, flagOfByte e with
    | some offset, some count, some destEn =>
      .ok (.readp (wordOfBytes s3 s2 s1 s0) offset count destEn (wordOfBytes d3 d2 d1 d0), rest)
    | _, _, _ => .error .operandBits
  | _ => .error .truncated

/-- WRITEP.INIT's operand (R100). -/
def decodeWritepInit : List Byte → Except DecodeError (Instr × List Byte)
  | n3 :: n2 :: n1 :: n0 :: rest => .ok (.writepInit (wordOfBytes n3 n2 n1 n0), rest)
  | _ => .error .truncated

/-- WRITEP.APPEND's operands (R100). -/
def decodeWritepAppend : List Byte → Except DecodeError (Instr × List Byte)
  | s3 :: s2 :: s1 :: s0 :: l3 :: l2 :: l1 :: l0 :: rest =>
    .ok (.writepAppend (wordOfBytes s3 s2 s1 s0) (wordOfBytes l3 l2 l1 l0), rest)
  | _ => .error .truncated

/-- LOADFMT's operands (R100). -/
def decodeLoadfmt : List Byte → Except DecodeError (Instr × List Byte)
  | b :: r3 :: r2 :: r1 :: r0 :: z3 :: z2 :: z1 :: z0 :: rest =>
    .ok (.loadfmt b (wordOfBytes r3 r2 r1 r0) (wordOfBytes z3 z2 z1 z0), rest)
  | _ => .error .truncated

/-- The first host operation of the bytes (R99 to R101). -/
def decodeHost : List Byte → Except DecodeError (Instr × List Byte)
  | [] => .error .truncated
  | code :: rest =>
    if code = codeInit then .ok (.init, rest)
    else if code = codeReadp then decodeReadp rest
    else if code = codeWritepInit then decodeWritepInit rest
    else if code = codeWritepAppend then decodeWritepAppend rest
    else if code = codeWritepFinal then .ok (.writepFinal, rest)
    else if code = codeLoadfmt then decodeLoadfmt rest
    else if code = codePlay then .ok (.play, rest)
    else .error (.reservedOp code)

/-- The first instruction of the bytes that arrive at a port, and the bytes after it. -/
def decode : Port → List Byte → Except DecodeError (Instr × List Byte)
  | .sdcmd48, bytes => decodeSd bytes
  | .dac16, bytes => decodeDac bytes
  | .hostop, bytes => decodeHost bytes

/-- The one instruction the bytes are: nothing may stand after it (one operation per line, R102). -/
def decodeWord (p : Port) (bytes : List Byte) : Except DecodeError Instr :=
  match decode p bytes with
  | .ok (i, []) => .ok i
  | .ok (_, _ :: _) => .error .trailing
  | .error e => .error e

/-! ## Encoding -/

/-- The port an instruction's word goes through. -/
def Instr.port : Instr → Port
  | .cmd0 | .cmd1 _ | .cmd8 | .cmd16 _ | .cmd17 _ _ | .cmd55 _ | .acmd41Hcs _ | .acmd41Zero _
  | .cmd58 _ => .sdcmd48
  | .dacWrite _ _ => .dac16
  | .init | .readp _ _ _ _ _ | .writepInit _ | .writepAppend _ _ | .writepFinal | .loadfmt _ _ _
  | .play => .hostop

/-- The bytes of an instruction, the first to arrive first (R80, R85, R96, R100). -/
def encode : Instr → List Byte
  | .cmd0 => sdFrame 0 0#32 crcGoIdle
  | .cmd1 crc => sdFrame 1 0#32 crc
  | .cmd8 => sdFrame 8 argIfCond crcIfCond
  | .cmd16 crc => sdFrame 16 argBlocklen crc
  | .cmd17 addr crc => sdFrame 17 addr crc
  | .cmd55 crc => sdFrame 55 0#32 crc
  | .acmd41Hcs crc => sdFrame 41 argHcs crc
  | .acmd41Zero crc => sdFrame 41 0#32 crc
  | .cmd58 crc => sdFrame 58 0#32 crc
  | .dacWrite ctrl data => [ctrl ++ data.extractLsb' 8 4, data.extractLsb' 0 8]
  | .init => [codeInit]
  | .readp sector offset count destEn dest =>
    codeReadp :: (bytesOfWord sector ++ bytesOfTen offset ++ bytesOfTen count ++
      [byteOfFlag destEn] ++ bytesOfWord dest)
  | .writepInit n => codeWritepInit :: bytesOfWord n
  | .writepAppend src len => codeWritepAppend :: (bytesOfWord src ++ bytesOfWord len)
  | .writepFinal => [codeWritepFinal]
  | .loadfmt bps rate size => codeLoadfmt :: bps :: (bytesOfWord rate ++ bytesOfWord size)
  | .play => [codePlay]

/-! ## Words as spec/opcode_table.json numbers them -/

/-- How many operand bytes follow a host operation code (R100, log 7). -/
def operandBytes (code : Byte) : Nat :=
  if code = codeReadp then 13
  else if code = codeWritepInit then 4
  else if code = codeWritepAppend then 8
  else if code = codeLoadfmt then 9
  else 0

/-- The low `n` bytes of a number, the most significant first. -/
def bytesMsbFirst : Nat → Nat → List Byte
  | 0, _ => []
  | n + 1, w => BitVec.ofNat 8 (w / 2 ^ (8 * n)) :: bytesMsbFirst n w

/-- The low `n` bytes of a number, the least significant first. -/
def bytesLsbFirst : Nat → Nat → List Byte
  | 0, _ => []
  | n + 1, w => BitVec.ofNat 8 w :: bytesLsbFirst n (w / 256)

/-- The port of a table row, by the width of its format: 48 bits SDCMD48, 16 bits DAC16, otherwise HOSTOP. -/
def tablePort (nbits : Nat) : Port :=
  if nbits = 48 then .sdcmd48 else if nbits = 16 then .dac16 else .hostop

/-- A table word as the bytes that arrive. SDCMD48 and DAC16 are one word each, bit 47 or 15 first; a
HOSTOP's bytes start with its code in bits 7 to 0, and operand bytes above `nbits` are 0. -/
def tableBytes (nbits w : Nat) : List Byte :=
  match tablePort nbits with
  | .sdcmd48 => bytesMsbFirst 6 w
  | .dac16 => bytesMsbFirst 2 w
  | .hostop => bytesLsbFirst (1 + operandBytes (BitVec.ofNat 8 w)) (w % 2 ^ nbits)

/-- The instruction the decoder reads from a table word. -/
def decodeTableWord (nbits w : Nat) : Option Instr :=
  match decodeWord (tablePort nbits) (tableBytes nbits w) with
  | .ok i => some i
  | .error _ => none

end Sys2Proof
end

