-- ==== Sys2Proof/Machine/State.lean ====
section
/-! DEFINITION. The state of the block (10_state.md), the continuation of CTL, the reasons a step stops, and
the state after reset (70_reset_and_hazards.md R320). -/

namespace Sys2Proof.Machine

/-- Bytes by address in one canonical form: addresses strictly rising. An address not listed has no value
(log 10, log 11). -/
abbrev Memory := List Host.Cell

/-- The canonical form: addresses strictly rise. No entry can equal what an unlisted address reads as,
because an unlisted address has no value. -/
abbrev Memory.wf (m : Memory) : Prop := List.Pairwise (fun c d => c.1 < d.1) m

/-! ## The continuation of CTL (10_state.md R23)

CTL has no program counter: `Kont` is the point its operation has reached, with the values of that
operation's locals (00_scope.md R15). -/

/-- Who called SendCmd and what it does with the R1 (40_framer_and_init.md R130, 41_block_read.md R172).
`tmr` is INIT's op-cond counter and `ty` its classification so far. -/
inductive Ret where
  /-- A frame sent on its own: nobody reads its R1 (log 18). -/
  | solo
  /-- INIT after CMD0 (R131). -/
  | goIdle
  /-- INIT after CMD8 (R132). -/
  | ifCond
  /-- INIT's SD v2 poll after CMD55 (R134). -/
  | hcsPrefix (tmr : Nat)
  /-- INIT's SD v2 poll after ACMD41.HCS (R134). -/
  | hcsPoll (tmr : Nat)
  /-- INIT after CMD58 (R135). -/
  | readOcr
  /-- INIT's legacy probe after CMD55 (R139). -/
  | probePrefix
  /-- INIT's legacy probe after ACMD41.0 (R139). -/
  | probe
  /-- INIT's SD v1 poll after CMD55 (R141). -/
  | legacyPrefix (tmr : Nat)
  /-- INIT's legacy poll after ACMD41.0 or CMD1 (R141). -/
  | legacyPoll (tmr : Nat) (ty : BitVec 4)
  /-- INIT after CMD16 (R142). -/
  | setBlocklen (ty : BitVec 4)
  /-- READP after CMD17 (41_block_read.md R172). -/
  | readBlock
  deriving DecidableEq, Repr

/-- Which four trailing bytes INIT is receiving (30_encoding.md R87, R88). -/
inductive TailOf where
  | ifCond
  | ocr
  deriving DecidableEq, Repr

/-- What follows the release: INIT's end with its classification, or READP's with its result code. -/
inductive EndOf where
  | init (ty : BitVec 4)
  | readp (code : Byte)
  deriving DecidableEq, Repr

/-- The continuation `CTL.k`: what CTL's next step does. -/
inductive Kont where
  /-- No operation in progress. -/
  | idle
  /-- The first line of an operation. -/
  | start (op : HostOp)
  /-- INIT: so many power-up exchanges still to make (40_framer_and_init.md R131). -/
  | clocks (left : Nat)
  /-- SendCmd is called on this frame: CTL fetches it (R122). -/
  | send (frame : List Byte) (ret : Ret)
  /-- The bracket's first dummy receive (R121). -/
  | dummy1 (frame : List Byte) (ret : Ret)
  /-- The bracket's select. -/
  | select (frame : List Byte) (ret : Ret)
  /-- The bracket's second dummy receive. -/
  | dummy2 (frame : List Byte) (ret : Ret)
  /-- The frame bytes still to transmit (R122). -/
  | transmit (rest : List Byte) (ret : Ret)
  /-- The R1 poll, with the receives left (R122). -/
  | poll (left : Nat) (ret : Ret)
  /-- The trailing bytes received so far, `ocr[0..]` (R133, R135). -/
  | tail (what : TailOf) (got : List Byte)
  /-- READP's token poll, with the receives left (41_block_read.md R174). -/
  | token (left : Nat)
  /-- READP's receive number `i` of the 514 after the token (R175). -/
  | payload (i : Nat)
  /-- The release's deselect (40_framer_and_init.md R124). -/
  | releaseDesel (e : EndOf)
  /-- The release's dummy receive, after which the operation ends. -/
  | releaseDummy (e : EndOf)
  /-- PLAY's priming read of buffer A (42_fifo_refill.md R210). -/
  | primeA
  /-- PLAY's priming read of buffer B. -/
  | primeB
  /-- PLAY sets the cursor, the status and the counter. -/
  | primeSet
  /-- PLAY arms the timer. -/
  | primeArm
  /-- The loop's termination check (R220). -/
  | loopPlayed
  /-- The loop's read of `STATUS` (R214). -/
  | loopStatus
  /-- The refill's file read into its target (R214). -/
  | refill (t : BufId)
  /-- The refill's write of `STATUS` (R214). -/
  | refillReady
  /-- A refill failed: disarm and return the error (R216). -/
  | playFail (e : DiskError)
  deriving DecidableEq, Repr

/-! ## The groups of registers -/

/-- The operand latches `A_SECTOR` to `A_SIZE` (10_state.md R25). -/
structure Latches where
  sector : Word
  offset : BitVec 10
  count : BitVec 10
  destEn : Bool
  dest : Word
  bps : Byte
  rate : Word
  size : Word
  deriving DecidableEq, Repr

/-- The FIFO: `BUF[0]`, `BUF[1]`, `LEN[0]`, `LEN[1]`, `ACT`, `CUR`, `END`, `STATUS`, `PLAYED` (10_state.md R26 to R31). -/
structure Fifo where
  bufA : Memory
  bufB : Memory
  lenA : Nat
  lenB : Nat
  act : BufId
  cur : Nat
  endp : Nat
  status : BitVec 2
  played : Word
  deriving DecidableEq, Repr

/-- The format registers `FMT_BPS`, `FMT_RATE`, `FMT_SIZE`, `FMT_VALID` (10_state.md R32). -/
structure Fmt where
  bps : Byte
  rate : Word
  size : Word
  valid : Bool
  deriving DecidableEq, Repr

/-- The DAC lines (10_state.md R34). -/
structure DacLines where
  cs : Cs
  sck : Bool
  sdi : Bool
  deriving DecidableEq, Repr

/-- The outside of the block, the MODEL's own fields: HOST's remaining lines, the answers a launch fixes for
CARD and FILE, the agents its schedule names for the coming steps, the counter of free schedule draws,
and the value HOST's last register read gave (log 2, 3, 4, 16, 19). -/
structure Env where
  program : List HostLine
  card : List Byte
  file : List FileAnswer
  sched : List Agent
  turn : Nat
  hostData : Word
  deriving DecidableEq, Repr

/-- The state of the block: every register of 10_state.md, destination memory (20_memory.md R62), the
launch's parameters, read only (log 1), and the outside. -/
structure State where
  /-- The parameters of the launch; no step writes them. -/
  cfg : Params
  /-- `CT` (10_state.md R20). -/
  ct : BitVec 4
  /-- `SD_CS` (R21). -/
  sdCs : Cs
  /-- `BUSY` (R22). -/
  busy : Bool
  /-- `OP` (R22). -/
  op : Option HostOp
  /-- `CTL.k` (R23). -/
  k : Kont
  /-- `RESULT` (R24). -/
  result : Byte
  /-- The operand latches (R25). -/
  latch : Latches
  /-- The two audio buffers and the registers that play them (R26 to R31). -/
  fifo : Fifo
  /-- The format registers (R32). -/
  fmt : Fmt
  /-- `TIMER_ARMED` (R33). -/
  timerArmed : Bool
  /-- The DAC lines (R34). -/
  dac : DacLines
  /-- Destination memory (20_memory.md R62). -/
  mem : Memory
  /-- `FAULT`, a set held as a list without repeats (R35). -/
  fault : List FaultKind
  /-- `REFUSED`, false as `none`, with the reason beside the mark (R35, 60_exceptions.md R294). -/
  refused : Option RefuseReason
  /-- `HIST`, in step order (R36). -/
  hist : List Event
  /-- The outside. -/
  env : Env
  deriving DecidableEq, Repr

/-- Why a step answers no next state, other than by a refusal. None of these is a value of the spec's
`FAULT`, which is state; each says that an agent, or every agent, has no step. -/
inductive Fault where
  /-- Raised by `step` and by the issue of a host operation when `FAULT` is not empty: no agent has a step
  after a fault (60_exceptions.md R290). Safe. -/
  | stopped
  /-- Raised by `step` when HOST has no line left, CTL is idle and EMT is disabled (70_reset_and_hazards.md R321). It
  does not say that a run has ended: `RunEnded` does (R335, log 22). Safe. -/
  | nothingLeft
  /-- Raised by `step` when the only agent at work is CTL, stuck at a destination byte where `DestOK` is
  false (60_exceptions.md R291). Safe. -/
  | destStuck
  /-- Raised by `step` when the only agent at work is EMT, and `UNDERRUN_MODE = Hold` holds its tick
  (70_reset_and_hazards.md R328). Safe. -/
  | tickHeld
  /-- Raised by `step` when HOST alone has a line left and `BUSY = 1` keeps it from taking it (60_exceptions.md
  R291); and by the meaning of a host operation run while `BUSY = 1`. Safe. -/
  | hostBusy
  /-- Raised by the meaning of a command frame run where CTL has not called SendCmd: commands never
  interleave (40_framer_and_init.md R120). Safe. -/
  | frameNotCalled
  /-- Raised by a tick that would read an audio buffer byte nothing has written, which no run reaches
  (10_state.md R26; log 11). Safe. -/
  | unwrittenBuffer
  deriving DecidableEq, Repr

/-- Why a step is refused. -/
inductive Refusal where
  /-- Raised by an arm of `exec` whose instruction has no meaning yet. Safe. -/
  | notModelled (mnemonic : String)
  /-- Raised by `step` when `REFUSED` is set: no agent has a step after a refusal (60_exceptions.md R294). Safe. -/
  | stopped
  /-- Raised by `step` on bytes that are no instruction of their port, but for a reserved host code, which sets
  `REFUSED` instead: the block has no such word (30_encoding.md R85, R99; log 7). Safe. -/
  | undecodable (e : DecodeError)
  deriving DecidableEq, Repr

/-- The state after reset (70_reset_and_hazards.md R320). `DAC_SDI`, which the spec leaves unspecified, is 0 (DESIGN
CHOICE, log 14: unsafe for a claim that reads it before the first frame). The parameters are the defaults of
00_scope.md R7 (log 1), and the host program and the scripts are empty (log 19). -/
def State.reset : State where
  cfg := Params.default
  ct := 0x0#4
  sdCs := .deasserted
  busy := false
  op := none
  k := .idle
  result := 0xFF#8
  latch :=
    { sector := 0#32, offset := 0#10, count := 0#10, destEn := false, dest := 0#32, bps := 0#8,
      rate := 0#32, size := 0#32 }
  fifo :=
    { bufA := [], bufB := [], lenA := 0, lenB := 0, act := .bufA, cur := 0, endp := 0,
      status := 0b00#2, played := 0#32 }
  fmt := { bps := 0#8, rate := 0#32, size := 0#32, valid := false }
  timerArmed := false
  dac := { cs := .deasserted, sck := false, sdi := false }
  mem := []
  fault := []
  refused := none
  hist := []
  env := { program := [], card := [], file := [], sched := [], turn := 0, hostData := 0#32 }

end Sys2Proof.Machine
end

