-- ==== Sys2Proof/Machine/Flags.lean ====
section
/-! DEFINITION. The codes and the judgements of the block: card types, playback status, result codes, and how
R1 bytes, tokens and trailing bytes are judged. The block has no condition flags. -/

namespace Sys2Proof.Machine

/-! ## CardType (10_state.md R20) -/

/-- The empty set: not initialized. -/
def ctNone : BitVec 4 := 0x0#4
/-- `{MMC}`. -/
def ctMmc : BitVec 4 := 0x1#4
/-- `{SD1}`. -/
def ctSd1 : BitVec 4 := 0x2#4
/-- `{SD2}`. -/
def ctSd2 : BitVec 4 := 0x4#4
/-- `{SD2, BLOCK}`. -/
def ctSd2Block : BitVec 4 := 0xC#4

/-- Bit `BLOCK`: sector numbers are sent as they are (10_state.md R20). -/
def ctIsBlock (ct : BitVec 4) : Bool := ct.getLsbD 3

/-- The values INIT can write (10_state.md R20). -/
abbrev ctLegal (ct : BitVec 4) : Prop :=
  ct = ctNone ∨ ct = ctMmc ∨ ct = ctSd1 ∨ ct = ctSd2 ∨ ct = ctSd2Block

/-! ## PlaybackStatus (10_state.md R30) -/

/-- `Ready`. -/
def statusReady : BitVec 2 := 0b00#2
/-- `Filling`. -/
def statusFilling : BitVec 2 := 0b01#2

/-! ## Result codes (60_exceptions.md R280) -/

/-- `OK`. -/
def resOk : Byte := 0x00#8
/-- `STREAM_END`. -/
def resStreamEnd : Byte := 0x01#8
/-- `DISK_NOT_INIT`. -/
def resDiskNotInit : Byte := 0x10#8
/-- `DISK_CMD_REJECTED`. -/
def resDiskCmdRejected : Byte := 0x11#8
/-- `DISK_RESP_TIMEOUT`. -/
def resDiskRespTimeout : Byte := 0x12#8
/-- `DISK_TOKEN_TIMEOUT`. -/
def resDiskTokenTimeout : Byte := 0x13#8
/-- `DISK_TOKEN_ERROR`. -/
def resDiskTokenError : Byte := 0x14#8
/-- `CALLER_MISUSE`. -/
def resCallerMisuse : Byte := 0x30#8

/-- The result code of a DiskError. -/
def diskErrorCode : DiskError → Byte
  | .notInit => resDiskNotInit
  | .cmdRejected => resDiskCmdRejected
  | .respTimeout => resDiskRespTimeout
  | .tokenTimeout => resDiskTokenTimeout
  | .tokenError => resDiskTokenError

/-! ## Host operation codes (30_encoding.md R100) -/

/-- The code of a host operation. -/
def hostOpCode : HostOp → Byte
  | .init => codeInit
  | .readp => codeReadp
  | .writepInit => codeWritepInit
  | .writepAppend => codeWritepAppend
  | .writepFinal => codeWritepFinal
  | .loadfmt => codeLoadfmt
  | .play => codePlay

/-! ## R1 responses (30_encoding.md R86) -/

/-- A byte whose high bit is clear is a valid R1 and stops the poll. -/
abbrev r1Valid (r : Byte) : Prop := r.getLsbD 7 = false

/-- The idle-state response code. -/
abbrev r1Idle (r : Byte) : Prop := r = 0x01#8

/-- Ready, no error. -/
abbrev r1Ready (r : Byte) : Prop := r = 0x00#8

/-- At most 0x01: the A-command prefix is passed (40_framer_and_init.md R123), the legacy probe finds SD v1 (R140). -/
abbrev r1AtMostIdle (r : Byte) : Prop := r.toNat ≤ 1

/-! ## Tokens and trailing bytes -/

/-- The byte sent during every receive (30_encoding.md R90). -/
def filler : Byte := 0xFF#8

/-- The data start token (30_encoding.md R89). -/
def dataToken : Byte := 0xFE#8

/-- The token poll goes on (30_encoding.md R89). -/
def noTokenYet : Byte := 0xFF#8

/-- The CMD8 tail passes the voltage check: `ocr[2] = 0x01` and `ocr[3] = 0xAA` (40_framer_and_init.md R133). -/
abbrev echoAccepted (ocr : List Byte) : Prop := ocr[2]? = some 0x01#8 ∧ ocr[3]? = some 0xAA#8

/-- CCS, bit 6 of the first OCR byte (30_encoding.md R88). -/
def ocrBlockAddressed (ocr : List Byte) : Bool := (ocr.headD 0#8).getLsbD 6

/-- The SD v2 classification (40_framer_and_init.md R136). -/
def classifyOcr (ocr : List Byte) : BitVec 4 :=
  if ocrBlockAddressed ocr then ctSd2Block else ctSd2

/-- The legacy classification of the probe's result (40_framer_and_init.md R140). -/
def classifyProbe (r : Byte) : BitVec 4 :=
  if r1AtMostIdle r then ctSd1 else ctMmc

/-- READP's result when CMD17 is not accepted (41_block_read.md R172, R176). -/
def cmd17Failure (r : Byte) : Byte :=
  if r1Valid r then resDiskCmdRejected else resDiskRespTimeout

/-- READP's result when the token poll ends without the token (41_block_read.md R174, R176). -/
def tokenFailure (rc : Byte) : Byte :=
  if rc = noTokenYet then resDiskTokenTimeout else resDiskTokenError

/-- INIT's result for its classification (40_framer_and_init.md R143). -/
def initResult (ty : BitVec 4) : Byte :=
  if ty = ctNone then resDiskNotInit else resOk

/-! ## Formats and sizes -/

/-- LOADFMT refuses the width (42_fifo_refill.md R200, R201). -/
abbrev widthRefused (bps : Byte) : Prop := bps ≠ 8#8 ∧ bps ≠ 16#8

/-- LOADFMT refuses the rate: 0, or a byte rate above 44100, computed exactly (R200, R201; log 21). -/
abbrev rateRefused (bps : Byte) (rate : Word) : Prop :=
  rate = 0#32 ∨ 44100 < rate.toNat * (bps.toNat / 8)

/-- The declared size has been played: `PLAYED >= FMT_SIZE`, unsigned (42_fifo_refill.md R220, 43_emitter.md R242). -/
abbrev sizePlayed (s : State) : Prop := s.fmt.size.toNat ≤ s.fifo.played.toNat

/-- The active range is exhausted: `CUR >= END` (43_emitter.md R243). -/
abbrev rangeExhausted (s : State) : Prop := s.fifo.endp ≤ s.fifo.cur

/-- The sample width in bytes (43_emitter.md R248). -/
def sampleWidth (s : State) : Nat := if s.fmt.bps = 16#8 then 2 else 1

end Sys2Proof.Machine
end

