-- ==== Sys2Proof/Machine/Ops.lean ====
section
/-! DEFINITION. The named operations over memory, registers, buses and events (00_scope.md R10 to R14). -/

namespace Sys2Proof.Machine

/-! ## Memory -/

/-- The byte at an address, if the address holds a value. -/
def Memory.read : Memory → Nat → Option Byte
  | [], _ => none
  | (a, b) :: m, x => if a = x then some b else Memory.read m x

/-- Write one byte, keeping the addresses rising. -/
def Memory.write : Memory → Nat → Byte → Memory
  | [], x, v => [(x, v)]
  | (a, b) :: m, x, v =>
    if x < a then (x, v) :: (a, b) :: m
    else if a = x then (x, v) :: m
    else (a, b) :: Memory.write m x v

/-- Write bytes at rising addresses from `x` on. -/
def Memory.writeFrom : Memory → Nat → List Byte → Memory
  | m, _, [] => m
  | m, x, b :: bs => Memory.writeFrom (Memory.write m x b) (x + 1) bs

/-! ## Audio buffers (00_scope.md R10) -/

/-- `other(k)`. -/
def BufId.other : BufId → BufId
  | .bufA => .bufB
  | .bufB => .bufA

/-- `BUF[k]`. -/
def Fifo.buf (f : Fifo) : BufId → Memory
  | .bufA => f.bufA
  | .bufB => f.bufB

/-- `LEN[k]`. -/
def Fifo.len (f : Fifo) : BufId → Nat
  | .bufA => f.lenA
  | .bufB => f.lenB

/-- `BUF[k] <- m`. -/
def Fifo.setBuf (f : Fifo) (k : BufId) (m : Memory) : Fifo :=
  match k with
  | .bufA => { f with bufA := m }
  | .bufB => { f with bufB := m }

/-- `LEN[k] <- n`. -/
def Fifo.setLen (f : Fifo) (k : BufId) (n : Nat) : Fifo :=
  match k with
  | .bufA => { f with lenA := n }
  | .bufB => { f with lenB := n }

/-! ## The history and the continuation -/

/-- Record an event (10_state.md R36). -/
def record (e : Event) (s : State) : State := { s with hist := s.hist ++ [e] }

/-- CTL goes to a point of its operation. -/
def goto (k : Kont) (s : State) : State := { s with k := k }

/-! ## Outcomes (00_scope.md R14)

The block has no trap: what stands for taking an exception is raising a fault kind, refusing, or ending an
operation with a result code. -/

/-- `raise Fault(kind)`: the kind joins `FAULT` and nothing else changes (60_exceptions.md R290). -/
def raise (kind : FaultKind) (s : State) : State :=
  { s with fault := if kind ∈ s.fault then s.fault else s.fault ++ [kind] }

/-- `refuse(reason)`: `REFUSED` is set, and is never cleared (60_exceptions.md R294). -/
def refuse (reason : RefuseReason) (s : State) : State := { s with refused := some reason }

/-- `return Result(code)`: the operation's last step writes `RESULT`, clears `BUSY`, sets `OP` to none and
records Done (60_exceptions.md R300); CTL is idle. -/
def finish (code : Byte) (s : State) : State :=
  { s with
    result := code, busy := false, op := none, k := .idle, hist := s.hist ++ [.done s.op code] }

/-! ## The SD bus (00_scope.md R11) -/

/-- `CsAssert()`. -/
def csAssert (s : State) : State :=
  { s with sdCs := .asserted, hist := s.hist ++ [.csAssert] }

/-- `CsDeassert()`. -/
def csDeassert (s : State) : State :=
  { s with sdCs := .deasserted, hist := s.hist ++ [.csDeassert] }

/-- The byte the CARD agent answers to an exchange that sends `o`: the next of the launch's script, or the
oracle's (20_memory.md R64; log 2). -/
def cardByte (o : Byte) (s : State) : Byte := s.env.card.headD (Config.cardAnswer s.hist o)

/-- `Xchg(o)`: the state after the exchange; its answer is `cardByte o s`. -/
def xchg (o : Byte) (s : State) : State :=
  { s with
    hist := s.hist ++ [.busX s.sdCs o (cardByte o s)], env := { s.env with card := s.env.card.tail } }

/-- The byte `Rx()` returns. -/
def rxByte (s : State) : Byte := cardByte filler s

/-- `Rx()`: the state after the receive. -/
def rx (s : State) : State := xchg filler s

/-! ## Destination memory (20_memory.md R62) -/

/-- `MemWrite(addr, 1, b)`. -/
def memWrite (a : Nat) (b : Byte) (s : State) : State := { s with mem := s.mem.write a b }

/-- `DestOK(addr)` (log 13). -/
def destOk (p : Params) (a : Nat) : Bool :=
  p.destOk.any fun r => decide (r.base ≤ a) && decide (a < r.base + r.size)

/-! ## The file-read port (20_memory.md R66) -/

/-- An answer the port admits: at most `len` bytes (log 3). -/
def clipAnswer (len : Nat) : FileAnswer → FileAnswer
  | .count bytes => .count (bytes.take len)
  | .error e => .error e

/-- The FILE agent's answer to `FileRead(k, len)`: the next of the launch's script, or the oracle's. -/
def fileAnswer (k : BufId) (len : Nat) (s : State) : FileAnswer :=
  clipAnswer len (s.env.file.headD (Config.fileAnswer s.hist k len))

/-- What the answer leaves in the buffer: the bytes from the base on, the rest kept; or, on an error, a
buffer whose contents are unspecified, so that no byte of it has a value (log 12). -/
def fillBuffer (m : Memory) : FileAnswer → Memory
  | .count bytes => m.writeFrom 0 bytes
  | .error _ => []

/-- `FileRead(k, len)`: the state after the transaction; its answer is `fileAnswer k len s`. -/
def fileRead (k : BufId) (len : Nat) (s : State) : State :=
  { s with
    fifo := s.fifo.setBuf k (fillBuffer (s.fifo.buf k) (fileAnswer k len s)),
    hist := s.hist ++ [.fileRead k len (fileAnswer k len s)],
    env := { s.env with file := s.env.file.tail } }

/-- `LEN[k] <- n`. -/
def setLen (k : BufId) (n : Nat) (s : State) : State := { s with fifo := s.fifo.setLen k n }

/-! ## The timer (10_state.md R33) -/

/-- `TIMER_ARMED <- 1`; records Arm. -/
def arm (s : State) : State := { s with timerArmed := true, hist := s.hist ++ [.arm] }

/-- `TIMER_ARMED <- 0`; records Disarm. -/
def disarm (s : State) : State := { s with timerArmed := false, hist := s.hist ++ [.disarm] }

end Sys2Proof.Machine
end

