-- ==== Sys2Proof/Machine/Operands.lean ====
section
/-! DEFINITION. The operand forms: the scaled card address, the destination address, the frames CTL sends, the
sample value and the DAC frame word. -/

namespace Sys2Proof.Machine

/-! ## Card and destination addresses -/

/-- The CMD17 argument: the sector on a block-addressed card, else the sector times 512 modulo 2^32
(41_block_read.md R171, 20_memory.md R61). -/
def scaledAddress (ct : BitVec 4) (sector : Word) : Word :=
  if ctIsBlock ct then sector else sector * 512#32

/-- The address of copied byte `i`: `(A_DEST + i) mod 2^32` (20_memory.md R62). -/
def destAddress (dest : Word) (i : Nat) : Nat := (dest + BitVec.ofNat 32 i).toNat

/-- READP's range leaves the 512-byte payload (41_block_read.md R170). -/
abbrev rangeTooLong (l : Latches) : Prop := Config.sectorBytes < l.offset.toNat + l.count.toNat

/-- Receive `i` after the token is one READP copies: it lies in the requested range and a destination is
present (41_block_read.md R175). -/
abbrev copiesByte (l : Latches) (i : Nat) : Prop :=
  l.destEn = true ∧ l.offset.toNat ≤ i ∧ i < l.offset.toNat + l.count.toNat

/-- Where receive `i` stores its byte. -/
def copyAddress (l : Latches) (i : Nat) : Nat := destAddress l.dest (i - l.offset.toNat)

/-! ## The frames CTL sends (30_encoding.md R83, R85) -/

/-- CMD0. -/
def frameCmd0 : List Byte := encode .cmd0
/-- CMD1. -/
def frameCmd1 (p : Params) : List Byte := encode (.cmd1 p.crcPlaceholder)
/-- CMD8. -/
def frameCmd8 : List Byte := encode .cmd8
/-- CMD16. -/
def frameCmd16 (p : Params) : List Byte := encode (.cmd16 p.crcPlaceholder)
/-- CMD17 at an address. -/
def frameCmd17 (p : Params) (addr : Word) : List Byte := encode (.cmd17 addr p.crcPlaceholder)
/-- CMD55. -/
def frameCmd55 (p : Params) : List Byte := encode (.cmd55 p.crcPlaceholder)
/-- ACMD41 with HCS. -/
def frameAcmd41Hcs (p : Params) : List Byte := encode (.acmd41Hcs p.crcPlaceholder)
/-- ACMD41 with argument 0. -/
def frameAcmd41Zero (p : Params) : List Byte := encode (.acmd41Zero p.crcPlaceholder)
/-- CMD58. -/
def frameCmd58 (p : Params) : List Byte := encode (.cmd58 p.crcPlaceholder)

/-! ## Samples (43_emitter.md R248 to R253) -/

/-- The 16-bit sample value of a 16-bit format: little-endian bytes, the high byte's sign bit flipped (R248, R249). -/
def sampleValue16 (b0 b1 : Byte) : Half := (b1 ^^^ 0x80#8) ++ b0

/-- The 16-bit sample value of an 8-bit format: the byte as the high value, the low byte zero (R248). -/
def sampleValue8 (b0 : Byte) : Half := b0 ++ 0x00#8

/-- The high byte through `HI_BIT_MAP`: slot `j` carries bit `HI_BIT_MAP(j)` (R252). -/
def hiMap (m : Vector (Fin 8) 8) (hi : Byte) : Byte :=
  BitVec.ofFnLE fun j : Fin 8 => hi.getLsbD m[j].val

/-- The data field: 8 high-byte slots and `V[7:4]` (R251, R252). -/
def dacData (p : Params) (v : Half) : BitVec 12 :=
  hiMap p.hiBitMap (v.extractLsb' 8 8) ++ v.extractLsb' 4 4

/-- The frame word `W = DAC_PREFIX : D` (R253). -/
def frameWord (p : Params) (v : Half) : Half := p.dacPrefix ++ dacData p v

/-- The frame word as its two bytes, the high one first. -/
def bytesOfHalf (w : Half) : List Byte := [w.extractLsb' 8 8, w.extractLsb' 0 8]

end Sys2Proof.Machine
end

