-- ==== Sys2Proof/Machine/Emitter.lean ====
section
/-! DEFINITION. Unit U4: the meaning of DAC_WRITE, which is the bit-bang sequence (43_emitter.md R256), and the tick
that leads to it (R241). The timer interrupt saves nothing on entry and restores nothing on return, so a tick
is only its body (60_exceptions.md R285, R286). -/

namespace Sys2Proof.Machine

/-! ## The DAC frame -/

/-- One write of a DAC line (00_scope.md R13). -/
inductive DacAct where
  | cs (v : Cs)
  | sdi (v : Bool)
  | sck (v : Bool)
  deriving DecidableEq, Repr

/-- The lines after one write. -/
def driveDac (d : DacLines) : DacAct → DacLines
  | .cs v => { d with cs := v }
  | .sdi v => { d with sdi := v }
  | .sck v => { d with sck := v }

/-- Clock out bits `n - 1` down to 0: the data settled first, then one clock pulse (R256). -/
def clockOut (w : Half) : Nat → List DacAct
  | 0 => []
  | n + 1 => .sdi (w.getLsbD n) :: .sck true :: .sck false :: clockOut w n

/-- The line writes of `Emit(W)` (R256). -/
def dacActs (w : Half) : List DacAct := .cs .asserted :: (clockOut w 16 ++ [.cs .deasserted])

/-- What the DAC samples: the data line at each rising edge of the clock, in order. -/
def sampledBits : DacLines → List DacAct → List Bool
  | _, [] => []
  | d, act :: acts =>
    if (driveDac d act).sck = true ∧ d.sck = false then
      d.sdi :: sampledBits (driveDac d act) acts
    else sampledBits (driveDac d act) acts

/-- `Emit(W)`: drive the lines through the sequence and record the frame (R256). -/
def emit (w : Half) (s : State) : State :=
  { s with dac := (dacActs w).foldl driveDac s.dac, hist := s.hist ++ [.dacFrame w] }

/-- DAC_WRITE: the frame word is the control bits and the data bits (R253). -/
def execDacWrite (ctrl : BitVec 4) (data : BitVec 12) (s : State) :
    Host.Outcome State Fault Refusal :=
  .next (emit (ctrl ++ data) s)

/-! ## The tick (R241) -/

/-- The range a tick plays from. -/
structure PlayRange where
  act : BufId
  cur : Nat
  endp : Nat
  deriving DecidableEq, Repr

/-- Step 1: the active range, or on exhaustion the other buffer's live range (R243, R244). -/
def tickRange (s : State) : PlayRange :=
  if rangeExhausted s then
    { act := s.fifo.act.other, cur := 0, endp := s.fifo.len s.fifo.act.other }
  else { act := s.fifo.act, cur := s.fifo.cur, endp := s.fifo.endp }

/-- Step 2: the sample value at the range's start; none if a byte of it was never written (R248; log 11). -/
def tickSample (s : State) : Option Half :=
  let r := tickRange s
  if sampleWidth s = 2 then
    match (s.fifo.buf r.act).read r.cur, (s.fifo.buf r.act).read (r.cur + 1) with
    | some b0, some b1 => some (sampleValue16 b0 b1)
    | _, _ => none
  else ((s.fifo.buf r.act).read r.cur).map sampleValue8

/-- The writes of a tick that passes every check: the swap, if there is one, `CUR` and `PLAYED` (R241, R244). -/
def tickCommit (s : State) : State :=
  { s with
    fifo :=
      { s.fifo with
        act := (tickRange s).act
        endp := (tickRange s).endp
        status := if rangeExhausted s then statusFilling else s.fifo.status
        cur := (tickRange s).cur + sampleWidth s
        played := s.fifo.played + BitVec.ofNat 32 (sampleWidth s) } }

/-- What a tick comes to. -/
inductive TickEnd where
  /-- Step 0: only acknowledge (R242). -/
  | ack
  /-- A check faults (60_exceptions.md R288). -/
  | raises (kind : FaultKind)
  /-- `UNDERRUN_MODE = Hold`: no step until the refill is done (70_reset_and_hazards.md R328). -/
  | held
  /-- A byte of the sample has no value (log 11). -/
  | unwritten
  /-- All checks passed: the frame word to emit (R253). -/
  | emits (w : Half)
  deriving DecidableEq, Repr

/-- The tick would be an underrun (R245). -/
abbrev underrunDue (s : State) : Prop := rangeExhausted s ∧ s.fifo.status = statusFilling

/-- The checks of the tick in their order, and the frame word if none applies (R241, 60_exceptions.md R288). -/
def tick (s : State) : TickEnd :=
  if sizePlayed s then .ack
  else if underrunDue s then
    match s.cfg.underrunMode with
    | .fault => .raises .underrun
    | .hold => .held
  else if (tickRange s).endp ≤ (tickRange s).cur then .raises .emptyRange
  else if sampleWidth s = 2 ∧ (tickRange s).endp - (tickRange s).cur < 2 then .raises .splitSample
  else if 2 ^ 32 ≤ s.fifo.played.toNat + sampleWidth s then .raises .playedWrap
  else
    match tickSample s with
    | none => .unwritten
    | some v => .emits (frameWord s.cfg v)

/-- The tick is held: EMT has no step (70_reset_and_hazards.md R328). -/
def tickIsHeld (s : State) : Bool := decide (tick s = .held)

end Sys2Proof.Machine
end

