-- ==== Sys2Proof/Machine/HostIssue.lean ====
section
/-! DEFINITION. HOST's steps: the meanings of the seven host operations, which are their issue (60_exceptions.md
R300), the refusal of a reserved code, and the register reads (10_state.md R37).

An issue is one transition: it records Issue, writes the operand latches, sets `BUSY` and `OP`, and starts
CTL at the operation's first line. CTL's steps (Machine/CardInit.lean, BlockRead.lean, Playback.lean) carry
the operation out. -/

namespace Sys2Proof.Machine

/-- The issue step of R300: `i` the instruction for the event, `op` its operation, `l` the latches after it.
HOST has no step after a fault or a refusal, nor while `BUSY = 1`. -/
def issue (i : Instr) (op : HostOp) (l : Latches) (s : State) : Host.Outcome State Fault Refusal :=
  if s.fault ≠ [] then .fault .stopped
  else if s.refused ≠ none then .refused .stopped
  else if s.busy then .fault .hostBusy
  else .next
    { s with
      latch := l, busy := true, op := some op, k := .start op,
      hist := s.hist ++ [.issue (hostOpCode op) (encode i).tail] }

/-- INIT has no operand (30_encoding.md R100). -/
def execInit (s : State) : Host.Outcome State Fault Refusal :=
  issue .init .init s.latch s

/-- READP latches `A_SECTOR`, `A_OFFSET`, `A_COUNT`, `A_DEST_EN` and `A_DEST` (41_block_read.md R170). -/
def execReadp (sector : Word) (offset count : BitVec 10) (destEn : Bool) (dest : Word) (s : State) :
    Host.Outcome State Fault Refusal :=
  issue (.readp sector offset count destEn dest) .readp
    { s.latch with sector := sector, offset := offset, count := count, destEn := destEn, dest := dest } s

/-- WRITEP.INIT: its operand has no latch (10_state.md R25; log 9); CTL's first step refuses (41_block_read.md R180). -/
def execWritepInit (n : Word) (s : State) : Host.Outcome State Fault Refusal :=
  issue (.writepInit n) .writepInit s.latch s

/-- WRITEP.APPEND: its operands have no latch; CTL's first step refuses (R180). -/
def execWritepAppend (src len : Word) (s : State) : Host.Outcome State Fault Refusal :=
  issue (.writepAppend src len) .writepAppend s.latch s

/-- WRITEP.FINAL: CTL's first step refuses (R180). -/
def execWritepFinal (s : State) : Host.Outcome State Fault Refusal :=
  issue .writepFinal .writepFinal s.latch s

/-- LOADFMT latches `A_BPS`, `A_RATE` and `A_SIZE` (42_fifo_refill.md R200). -/
def execLoadfmt (bps : Byte) (rate size : Word) (s : State) : Host.Outcome State Fault Refusal :=
  issue (.loadfmt bps rate size) .loadfmt { s.latch with bps := bps, rate := rate, size := size } s

/-- PLAY has no operand (42_fifo_refill.md R205). -/
def execPlay (s : State) : Host.Outcome State Fault Refusal :=
  issue .play .play s.latch s

/-- The issue of a reserved code: Issue is recorded, then the state is refused (60_exceptions.md R300, R294). -/
def issueReserved (code : Byte) (operands : List Byte) (s : State) : State :=
  refuse .reservedOp (record (.issue code operands) s)

/-! ## Register reads (10_state.md R37) -/

/-- A 1-bit register as HOST reads it. -/
def wordOfFlag (f : Bool) : Word := if f then 1#32 else 0#32

/-- The register of a number, zero-extended; none above 0x0F. `OP` reads 0 while there is none (log 16). -/
def hostRegister (s : State) (n : Byte) : Option Word :=
  if n = 0x00#8 then some (match s.op with | some op => (hostOpCode op).setWidth 32 | none => 0#32)
  else if n = 0x01#8 then some (s.result.setWidth 32)
  else if n = 0x02#8 then some (wordOfFlag s.busy)
  else if n = 0x03#8 then some (s.ct.setWidth 32)
  else if n = 0x04#8 then some s.latch.sector
  else if n = 0x05#8 then some (s.latch.offset.setWidth 32)
  else if n = 0x06#8 then some (s.latch.count.setWidth 32)
  else if n = 0x07#8 then some (wordOfFlag s.latch.destEn)
  else if n = 0x08#8 then some s.latch.dest
  else if n = 0x09#8 then some (s.latch.bps.setWidth 32)
  else if n = 0x0A#8 then some s.latch.rate
  else if n = 0x0B#8 then some s.latch.size
  else if n = 0x0C#8 then some (wordOfFlag s.fmt.valid)
  else if n = 0x0D#8 then some (s.fifo.status.setWidth 32)
  else if n = 0x0E#8 then some (wordOfFlag s.timerArmed)
  else if n = 0x0F#8 then some s.fifo.played
  else none

/-- HOST reads a register: no side effect (20_memory.md R71); a number above 0x0F is refused (R37). -/
def hostRead (n : Byte) (s : State) : State :=
  match hostRegister s n with
  | some v => { s with env := { s.env with hostData := v } }
  | none => refuse .reservedReg s

end Sys2Proof.Machine
end

