-- ==== Sys2Proof/Machine/SdCommands.lean ====
section
/-! DEFINITION. The meanings of the nine SD command frames.

A frame runs when CTL stands at a call of SendCmd (40_framer_and_init.md R122). Running it takes the first of
SendCmd's steps, the bracket's deselect (R121), and hands the six bytes to the framer, whose later steps
(Machine/Framer.lean) finish the bracket, transmit the bytes and poll the R1 for the caller. -/

namespace Sys2Proof.Machine

/-- SendCmd begins: the bracket's `CsDeassert()`, with the frame's bytes kept for the framer (R121, R122).
Where CTL has not called SendCmd there is no frame to begin: commands never interleave (R120; log 18). -/
def beginFrame (frame : List Byte) (s : State) : Host.Outcome State Fault Refusal :=
  match s.k with
  | .send _ ret => .next (goto (.dummy1 frame ret) (csDeassert s))
  | _ => .fault .frameNotCalled

/-- CMD0, GO_IDLE: `40 00 00 00 00 95` (R150). -/
def execCmd0 (s : State) : Host.Outcome State Fault Refusal :=
  beginFrame (sdFrame 0 0#32 crcGoIdle) s

/-- CMD1, SEND_OP_COND: `41 00 00 00 00 crc` (R151). -/
def execCmd1 (crc : Byte) (s : State) : Host.Outcome State Fault Refusal :=
  beginFrame (sdFrame 1 0#32 crc) s

/-- CMD8, SEND_IF_COND: `48 00 00 01 AA 87` (R152). -/
def execCmd8 (s : State) : Host.Outcome State Fault Refusal :=
  beginFrame (sdFrame 8 argIfCond crcIfCond) s

/-- CMD16, SET_BLOCKLEN 512: `50 00 00 02 00 crc` (R153). -/
def execCmd16 (crc : Byte) (s : State) : Host.Outcome State Fault Refusal :=
  beginFrame (sdFrame 16 argBlocklen crc) s

/-- CMD17, READ_SINGLE_BLOCK: `51 a3 a2 a1 a0 crc` (41_block_read.md R173). -/
def execCmd17 (addr : Word) (crc : Byte) (s : State) : Host.Outcome State Fault Refusal :=
  beginFrame (sdFrame 17 addr crc) s

/-- CMD55, APP_CMD: `77 00 00 00 00 crc` (40_framer_and_init.md R154). -/
def execCmd55 (crc : Byte) (s : State) : Host.Outcome State Fault Refusal :=
  beginFrame (sdFrame 55 0#32 crc) s

/-- ACMD41.HCS, the command frame after its CMD55: `69 40 00 00 00 crc` (R155). -/
def execAcmd41Hcs (crc : Byte) (s : State) : Host.Outcome State Fault Refusal :=
  beginFrame (sdFrame 41 argHcs crc) s

/-- ACMD41.0, the command frame after its CMD55: `69 00 00 00 00 crc` (R156). -/
def execAcmd41Zero (crc : Byte) (s : State) : Host.Outcome State Fault Refusal :=
  beginFrame (sdFrame 41 0#32 crc) s

/-- CMD58, READ_OCR: `7A 00 00 00 00 crc` (R157). -/
def execCmd58 (crc : Byte) (s : State) : Host.Outcome State Fault Refusal :=
  beginFrame (sdFrame 58 0#32 crc) s

end Sys2Proof.Machine
end

