-- ==== Sys2Proof/Machine/Dispatch.lean ====
section
/-! DEFINITION. One arm per instruction, each one call of its meaning. -/

namespace Sys2Proof.Machine

def exec (i : Instr) (s : State) : Host.Outcome State Fault Refusal :=
  match i with
  | .cmd0 => Sys2Proof.Machine.execCmd0 s
  | .cmd1 crc => Sys2Proof.Machine.execCmd1 crc s
  | .cmd8 => Sys2Proof.Machine.execCmd8 s
  | .cmd16 crc => Sys2Proof.Machine.execCmd16 crc s
  | .cmd17 addr crc => Sys2Proof.Machine.execCmd17 addr crc s
  | .cmd55 crc => Sys2Proof.Machine.execCmd55 crc s
  | .acmd41Hcs crc => Sys2Proof.Machine.execAcmd41Hcs crc s
  | .acmd41Zero crc => Sys2Proof.Machine.execAcmd41Zero crc s
  | .cmd58 crc => Sys2Proof.Machine.execCmd58 crc s
  | .dacWrite ctrl data => Sys2Proof.Machine.execDacWrite ctrl data s
  | .init => Sys2Proof.Machine.execInit s
  | .readp sector offset count destEn dest => Sys2Proof.Machine.execReadp sector offset count destEn dest s
  | .writepInit n => Sys2Proof.Machine.execWritepInit n s
  | .writepAppend src len => Sys2Proof.Machine.execWritepAppend src len s
  | .writepFinal => Sys2Proof.Machine.execWritepFinal s
  | .loadfmt bps rate size => Sys2Proof.Machine.execLoadfmt bps rate size s
  | .play => Sys2Proof.Machine.execPlay s

end Sys2Proof.Machine
end

