-- ==== Sys2Proof/Machine/Framer.lean ====
section
/-! DEFINITION. The framer's steps after a frame has begun, but for the R1 poll's return to its caller (40_framer_and_init.md
R121, R122, R124). Each primitive is one CTL step. -/

namespace Sys2Proof.Machine

/-- Transmit one byte: an exchange whose answer is ignored (00_scope.md R11). -/
def tx (o : Byte) (s : State) : State := xchg o s

/-- The bracket's first dummy receive. -/
def stepDummy1 (frame : List Byte) (ret : Ret) (s : State) : State :=
  goto (.select frame ret) (tx filler s)

/-- The bracket's select. -/
def stepSelect (frame : List Byte) (ret : Ret) (s : State) : State :=
  goto (.dummy2 frame ret) (csAssert s)

/-- The bracket's second dummy receive. -/
def stepDummy2 (frame : List Byte) (ret : Ret) (s : State) : State :=
  goto (.transmit frame ret) (tx filler s)

/-- Where CTL goes when so many frame bytes are left: with none, to the R1 poll with its budget (R122). -/
def afterTransmit (p : Params) (rest : List Byte) (ret : Ret) : Kont :=
  match rest with
  | [] => .poll p.nR1 ret
  | _ :: _ => .transmit rest ret

/-- Transmit the next frame byte. -/
def stepTransmit (rest : List Byte) (ret : Ret) (s : State) : State :=
  match rest with
  | [] => goto (.poll s.cfg.nR1 ret) s
  | b :: bs => goto (afterTransmit s.cfg bs ret) (tx b s)

/-- The release's deselect (R124). -/
def stepReleaseDesel (e : EndOf) (s : State) : State := goto (.releaseDummy e) (csDeassert s)

/-- The release's dummy receive, in whose transition the operation ends (R124, R143; log 6). -/
def stepReleaseDummy (code : Byte) (s : State) : State := finish code (tx filler s)

end Sys2Proof.Machine
end

