-- ==== Sys2Proof/Machine/CardInit.lean ====
section
/-! DEFINITION. INIT: card bring-up and classification (40_framer_and_init.md R130 to R143).

The functions to `Kont` are INIT's pure decisions: where CTL goes once an R1 or a tail is in. -/

namespace Sys2Proof.Machine

/-- INIT's last part with a classification: the release, and `CT <- ty` in its last step (R143). -/
def initEnd (ty : BitVec 4) : Kont := .releaseDesel (.init ty)

/-- The SD v2 op-cond poll with so many attempts left: CMD55 opens the next one, and with none left INIT
ends with the empty set (R134). -/
def hcsLoop (p : Params) (tmr : Nat) : Kont :=
  if tmr = 0 then initEnd ctNone else .send (frameCmd55 p) (.hcsPrefix tmr)

/-- The legacy op-cond poll with so many attempts left: CMD55 opens an SD v1 attempt, CMD1 is an MMC one;
with none left INIT ends with the empty set and sends no CMD16 (R141, R142). -/
def legacyLoop (p : Params) (ty : BitVec 4) (tmr : Nat) : Kont :=
  if tmr = 0 then initEnd ctNone
  else if ty = ctSd1 then .send (frameCmd55 p) (.legacyPrefix tmr)
  else .send (frameCmd1 p) (.legacyPoll tmr ty)

/-- The legacy probe's result is in: classify and start the poll (R140, R141). -/
def afterProbe (p : Params) (r : Byte) : Kont := legacyLoop p (classifyProbe r) p.nOpcond

/-- After CMD0 (R131). -/
def afterGoIdle (r : Byte) : Kont :=
  if r1Idle r then .send frameCmd8 .ifCond else initEnd ctNone

/-- After CMD8: accepted, its tail follows; rejected, the legacy probe does (R132, R139). -/
def afterIfCond (p : Params) (r : Byte) : Kont :=
  if r1Idle r then .tail .ifCond [] else .send (frameCmd55 p) .probePrefix

/-- After CMD55 of an SD v2 attempt; a failed prefix fails the attempt (R123, R134). -/
def afterHcsPrefix (p : Params) (tmr : Nat) (r : Byte) : Kont :=
  if r1AtMostIdle r then .send (frameAcmd41Hcs p) (.hcsPoll tmr) else hcsLoop p (tmr - 1)

/-- After ACMD41.HCS (R134, R135). -/
def afterHcsPoll (p : Params) (tmr : Nat) (r : Byte) : Kont :=
  if r1Ready r then .send (frameCmd58 p) .readOcr else hcsLoop p (tmr - 1)

/-- After CMD58 (R135). -/
def afterReadOcr (r : Byte) : Kont :=
  if r1Ready r then .tail .ocr [] else initEnd ctNone

/-- After the probe's CMD55; a failed prefix's R1 is the probe's result (R123, R139). -/
def afterProbePrefix (p : Params) (r : Byte) : Kont :=
  if r1AtMostIdle r then .send (frameAcmd41Zero p) .probe else afterProbe p r

/-- After CMD55 of an SD v1 attempt (R141). -/
def afterLegacyPrefix (p : Params) (tmr : Nat) (r : Byte) : Kont :=
  if r1AtMostIdle r then .send (frameAcmd41Zero p) (.legacyPoll tmr ctSd1)
  else legacyLoop p ctSd1 (tmr - 1)

/-- After a legacy attempt's command (R141, R142). -/
def afterLegacyPoll (p : Params) (tmr : Nat) (ty : BitVec 4) (r : Byte) : Kont :=
  if r1Ready r then .send (frameCmd16 p) (.setBlocklen ty) else legacyLoop p ty (tmr - 1)

/-- After CMD16 (R142). -/
def afterSetBlocklen (ty : BitVec 4) (r : Byte) : Kont :=
  if r1Ready r then initEnd ty else initEnd ctNone

/-- After four trailing bytes: the voltage check, or the OCR classification (R133, R136). -/
def afterTail (p : Params) (what : TailOf) (ocr : List Byte) : Kont :=
  match what with
  | .ifCond => if echoAccepted ocr then hcsLoop p p.nOpcond else initEnd ctNone
  | .ocr => initEnd (classifyOcr ocr)

/-- Where CTL goes with so many power-up exchanges left: with none, to CMD0 (R131). -/
def afterClocks (left : Nat) : Kont :=
  if left = 0 then .send frameCmd0 .goIdle else .clocks left

/-- INIT's first step: deselect (R131). -/
def stepInitStart (s : State) : State := goto (afterClocks s.cfg.nPwrupBytes) (csDeassert s)

/-- A power-up exchange with the card deselected (R131). -/
def stepClocks (left : Nat) (s : State) : State := goto (afterClocks (left - 1)) (tx filler s)

/-- Where CTL goes with the trailing bytes received so far. -/
def nextTail (p : Params) (what : TailOf) (got : List Byte) : Kont :=
  if 4 ≤ got.length then afterTail p what got else .tail what got

/-- Receive one trailing byte (R133, R135). -/
def stepTail (what : TailOf) (got : List Byte) (s : State) : State :=
  goto (nextTail s.cfg what (got ++ [rxByte s])) (rx s)

/-- `CT <- ty`: the one write of `CT` in the block (R143). -/
def writeCt (ty : BitVec 4) (s : State) : State := { s with ct := ty }

/-- INIT's last step: `CT <- ty`, the release's dummy receive and the return, in one transition. Until it `CT`
keeps the previous value (R143, 90_conflicts.md C8, 92_eei_decisions.md D14). -/
def stepInitEnd (ty : BitVec 4) (s : State) : State :=
  stepReleaseDummy (initResult ty) (writeCt ty s)

end Sys2Proof.Machine
end

