-- ==== Sys2Proof/Machine/BlockRead.lean ====
section
/-! DEFINITION. Unit U2: READP's steps (41_block_read.md R170 to R178), and the refusal of the write-sector operations (R180). -/

namespace Sys2Proof.Machine

/-- READP's first step: the two preconditions in their order, then the scaled address and the call of
SendCmd(17, addr) (R170 to R172). -/
def stepReadpStart (s : State) : State :=
  if s.ct = ctNone then raise .readBeforeInit s
  else if rangeTooLong s.latch then raise .readRange s
  else goto (.send (frameCmd17 s.cfg (scaledAddress s.ct s.latch.sector)) .readBlock) s

/-- READP's last part with a result code: the release (R172). -/
def readEnd (code : Byte) : Kont := .releaseDesel (.readp code)

/-- After CMD17: the token poll with its budget, or a failure (R173, R174). -/
def afterReadBlock (p : Params) (r : Byte) : Kont :=
  if r1Ready r then .token p.nToken else readEnd (cmd17Failure r)

/-- After a token-poll byte with so many receives left: go on, take the payload, or fail (R174). -/
def afterToken (left : Nat) (rc : Byte) : Kont :=
  if rc = noTokenYet ∧ left ≠ 0 then .token left
  else if rc = dataToken then .payload 0
  else readEnd (tokenFailure rc)

/-- One receive of the token poll (R174). -/
def stepToken (left : Nat) (s : State) : State :=
  goto (afterToken (left - 1) (rxByte s)) (rx s)

/-- After payload receive `i`: 514 receives in all, then the release with OK (R175). -/
def afterPayload (i : Nat) : Kont :=
  if i + 1 < Config.sectorBytes + 2 then .payload (i + 1) else readEnd resOk

/-- Receive `i` after the token. In the requested range, with a destination, its byte is stored in the same
step; everywhere else it is discarded (R175). -/
def stepPayload (i : Nat) (s : State) : State :=
  if copiesByte s.latch i then
    goto (afterPayload i) (memWrite (copyAddress s.latch i) (rxByte s) (rx s))
  else goto (afterPayload i) (rx s)

/-- CTL is stuck: receive `i` must store to an address where `DestOK` is false (20_memory.md R62, 60_exceptions.md R291). -/
def payloadStuck (i : Nat) (s : State) : Bool :=
  decide (copiesByte s.latch i) && !destOk s.cfg (copyAddress s.latch i)

/-- The first step of WRITEP.INIT, WRITEP.APPEND and WRITEP.FINAL (R180). -/
def stepWriteRefused (s : State) : State := refuse .writeUnspecified s

end Sys2Proof.Machine
end

