-- ==== Sys2Proof/Machine/Playback.lean ====
section
/-! DEFINITION. Unit U3: the steps of LOADFMT (42_fifo_refill.md R200, R201) and PLAY (R205 to R221). A line marked
`; step` there is one CTL step; a return belongs to the step before it (log 6). -/

namespace Sys2Proof.Machine

/-! ## LOADFMT -/

/-- LOADFMT's one step: the two refusals in their order, or the four format registers and OK (R200). -/
def stepLoadfmt (s : State) : State :=
  if widthRefused s.latch.bps then refuse .formatUnmodelled s
  else if rateRefused s.latch.bps s.latch.rate then refuse .formatUnmodelled s
  else
    finish resOk
      { s with
        fmt := { bps := s.latch.bps, rate := s.latch.rate, size := s.latch.size, valid := true } }

/-! ## PLAY -/

/-- PLAY's first step: CALLER_MISUSE without a format, else the format is consumed (R205). -/
def stepPlayStart (s : State) : State :=
  if s.fmt.valid then goto .primeA { s with fmt := { s.fmt with valid := false } }
  else finish resCallerMisuse s

/-- The priming read of buffer A: an error or no byte ends PLAY (R210, R211). -/
def stepPrimeA (s : State) : State :=
  match fileAnswer .bufA s.cfg.bufSize s with
  | .error e => finish (diskErrorCode e) (fileRead .bufA s.cfg.bufSize s)
  | .count bytes =>
    let s' := setLen .bufA bytes.length (fileRead .bufA s.cfg.bufSize s)
    if bytes.length = 0 then finish resStreamEnd s' else goto .primeB s'

/-- The priming read of buffer B: an error ends PLAY; no byte does not (R210, R211). -/
def stepPrimeB (s : State) : State :=
  match fileAnswer .bufB s.cfg.bufSize s with
  | .error e => finish (diskErrorCode e) (fileRead .bufB s.cfg.bufSize s)
  | .count bytes => goto .primeSet (setLen .bufB bytes.length (fileRead .bufB s.cfg.bufSize s))

/-- The cursor at A's start, `STATUS <- Ready`, `PLAYED <- 0` (R210). -/
def stepPrimeSet (s : State) : State :=
  goto .primeArm
    { s with
      fifo :=
        { s.fifo with
          act := .bufA, cur := 0, endp := s.fifo.lenA, status := statusReady, played := 0#32 } }

/-- `TIMER_ARMED <- 1` (R210). -/
def stepPrimeArm (s : State) : State := goto .loopPlayed (arm s)

/-- The termination check: with the declared size played, disarm and return STREAM_END (R220). -/
def stepLoopPlayed (s : State) : State :=
  if sizePlayed s then finish resStreamEnd (disarm s) else goto .loopStatus s

/-- The read of `STATUS`, and of the refill's target in the same step (R214, R215). -/
def stepLoopStatus (s : State) : State :=
  if s.fifo.status = statusFilling then goto (.refill s.fifo.act.other) s else goto .loopPlayed s

/-- The refill's file read: an error goes to the failure, with `LEN` and `STATUS` left (R214, R216). -/
def stepRefill (t : BufId) (s : State) : State :=
  match fileAnswer t s.cfg.bufSize s with
  | .error e => goto (.playFail e) (fileRead t s.cfg.bufSize s)
  | .count bytes => goto .refillReady (setLen t bytes.length (fileRead t s.cfg.bufSize s))

/-- `STATUS <- Ready` (R214). -/
def stepRefillReady (s : State) : State :=
  goto .loopPlayed { s with fifo := { s.fifo with status := statusReady } }

/-- The failure: disarm, then return the error (R216). -/
def stepPlayFail (e : DiskError) (s : State) : State := finish (diskErrorCode e) (disarm s)

end Sys2Proof.Machine
end

