-- ==== Sys2Proof/Machine/Ctl.lean ====
section
/-! DEFINITION. CTL's step at every point of its operations but a call of SendCmd, where CTL fetches a frame
(Machine/Fetch.lean). -/

namespace Sys2Proof.Machine

/-- Where CTL goes with the R1 its call of SendCmd returns (40_framer_and_init.md R130, 41_block_read.md R172). A frame
sent on its own returns to nobody (log 18). -/
def afterR1 (p : Params) (ret : Ret) (r : Byte) : Kont :=
  match ret with
  | .solo => .idle
  | .goIdle => afterGoIdle r
  | .ifCond => afterIfCond p r
  | .hcsPrefix tmr => afterHcsPrefix p tmr r
  | .hcsPoll tmr => afterHcsPoll p tmr r
  | .readOcr => afterReadOcr r
  | .probePrefix => afterProbePrefix p r
  | .probe => afterProbe p r
  | .legacyPrefix tmr => afterLegacyPrefix p tmr r
  | .legacyPoll tmr ty => afterLegacyPoll p tmr ty r
  | .setBlocklen ty => afterSetBlocklen ty r
  | .readBlock => afterReadBlock p r

/-- Where CTL goes after an R1 poll receive with so many left: the poll ends on a valid R1 or an exhausted
budget, with the last byte received (R122). -/
def nextPoll (p : Params) (left : Nat) (ret : Ret) (r : Byte) : Kont :=
  if r1Valid r ∨ left = 0 then afterR1 p ret r else .poll left ret

/-- One receive of the R1 poll (R122). -/
def stepPoll (left : Nat) (ret : Ret) (s : State) : State :=
  goto (nextPoll s.cfg (left - 1) ret (rxByte s)) (rx s)

/-- The first step of an operation. -/
def stepStart (op : HostOp) (s : State) : State :=
  match op with
  | .init => stepInitStart s
  | .readp => stepReadpStart s
  | .writepInit => stepWriteRefused s
  | .writepAppend => stepWriteRefused s
  | .writepFinal => stepWriteRefused s
  | .loadfmt => stepLoadfmt s
  | .play => stepPlayStart s

/-- The last step of INIT and of READP: the release's dummy receive, and the return of the result
(40_framer_and_init.md R143, 41_block_read.md R176). -/
def stepOperationEnd (e : EndOf) (s : State) : State :=
  match e with
  | .init ty => stepInitEnd ty s
  | .readp code => stepReleaseDummy code s

/-- CTL has a step: its continuation is not idle and it is not stuck (60_exceptions.md R291). -/
def ctlHasStep (s : State) : Bool :=
  match s.k with
  | .idle => false
  | .payload i => !payloadStuck i s
  | _ => true

/-- CTL's step. At a call of SendCmd and when idle it is no step of its own and changes nothing. -/
def ctlStep (s : State) : State :=
  match s.k with
  | .idle => s
  | .start op => stepStart op s
  | .clocks left => stepClocks left s
  | .send _ _ => s
  | .dummy1 frame ret => stepDummy1 frame ret s
  | .select frame ret => stepSelect frame ret s
  | .dummy2 frame ret => stepDummy2 frame ret s
  | .transmit rest ret => stepTransmit rest ret s
  | .poll left ret => stepPoll left ret s
  | .tail what got => stepTail what got s
  | .token left => stepToken left s
  | .payload i => stepPayload i s
  | .releaseDesel e => stepReleaseDesel e s
  | .releaseDummy e => stepOperationEnd e s
  | .primeA => stepPrimeA s
  | .primeB => stepPrimeB s
  | .primeSet => stepPrimeSet s
  | .primeArm => stepPrimeArm s
  | .loopPlayed => stepLoopPlayed s
  | .loopStatus => stepLoopStatus s
  | .refill t => stepRefill t s
  | .refillReady => stepRefillReady s
  | .playFail e => stepPlayFail e s

end Sys2Proof.Machine
end

