-- ==== Sys2Proof/Machine/Schedule.lean ====
section
/-! DEFINITION. Which agent takes the next step (00_scope.md R6, 60_exceptions.md R288, R305). -/

namespace Sys2Proof.Machine

/-- HOST has a step in a state without fault or refusal: a line to issue or a register to read, while `BUSY = 0`. HOST is stuck while `BUSY = 1`
(60_exceptions.md R291, R300, R301; 10_state.md R24). -/
def hostHasStep (s : State) : Bool := !s.env.program.isEmpty && !s.busy

/-- EMT has a step: the timer is armed and the tick is not held (43_emitter.md R240, 70_reset_and_hazards.md R328). -/
def emtHasStep (s : State) : Bool := s.timerArmed && !tickIsHeld s

/-- The agent has a step, in a state without fault or refusal; in any other no agent has one, and `step` stops
before it asks (60_exceptions.md R290, R294). -/
def hasStep (s : State) : Agent → Bool
  | .host => hostHasStep s
  | .ctl => ctlHasStep s
  | .emt => emtHasStep s

/-- The agents that have a step. -/
def enabledAgents (s : State) : List Agent :=
  [Agent.host, Agent.ctl, Agent.emt].filter (hasStep s)

/-- The agent a schedule names, if it has a step; else the first that has one (log 4). -/
def pick (s : State) (named first : Agent) : Agent := if hasStep s named then named else first

/-- The agent whose step is next: the one the launch's schedule names, then the only one that has a step, and
otherwise a free choice (log 4). None when no agent has a step. -/
def mover (s : State) : Option Agent :=
  match enabledAgents s with
  | [] => none
  | a :: more =>
    match s.env.sched, more with
    | b :: _, _ => some (pick s b a)
    | [], [] => some a
    | [], _ :: _ => some (pick s (Config.scheduled s.env.turn) a)

/-- The schedule after the choice: its entry used up, or the free-choice counter advanced. -/
def takeTurn (s : State) : State :=
  match s.env.sched, enabledAgents s with
  | _ :: bs, _ => { s with env := { s.env with sched := bs } }
  | [], _ :: _ :: _ => { s with env := { s.env with turn := s.env.turn + 1 } }
  | [], _ => s

/-- Why no agent has a step (log 15). -/
def noStepReason (s : State) : Fault :=
  if s.k ≠ .idle then .destStuck
  else if s.timerArmed then .tickHeld
  else if s.env.program ≠ [] then .hostBusy
  else .nothingLeft

end Sys2Proof.Machine
end

