-- ==== Sys2Proof/Machine/Fetch.lean ====
section
/-! DEFINITION. Fetching: where each agent's next instruction comes from, and the steps that start none.

The block has no program counter and no instruction memory (20_memory.md R60, 00_scope.md R15). HOST's next instruction
is the first line of its program; CTL's is the frame its call of SendCmd names; EMT's is the frame word its
tick extracts. Every other step of an agent starts no instruction. -/

namespace Sys2Proof.Machine

/-- What the step comes to before any instruction runs. -/
inductive Fetched where
  /-- A word for a port, and the state its instruction is to run in. -/
  | word (p : Port) (bytes : List Byte) (s : State)
  /-- A step that starts no instruction. -/
  | done (o : Host.Outcome State Fault Refusal)

/-- HOST moves past its first line. -/
def popLine (s : State) : State := { s with env := { s.env with program := s.env.program.tail } }

/-- HOST's step. -/
def hostFetch (s : State) : Fetched :=
  match s.env.program with
  | [] => .done (.fault .nothingLeft)
  | .issue bytes :: _ => .word .hostop bytes (popLine s)
  | .read n :: _ => .done (.next (hostRead n (popLine s)))

/-- CTL's step. -/
def ctlFetch (s : State) : Fetched :=
  match s.k with
  | .send frame _ => .word .sdcmd48 frame s
  | _ => .done (.next (ctlStep s))

/-- EMT's step: one tick (43_emitter.md R241). -/
def emtFetch (s : State) : Fetched :=
  match tick s with
  | .ack => .done (.next s)
  | .raises kind => .done (.next (raise kind s))
  | .held => .done (.fault .tickHeld)
  | .unwritten => .done (.fault .unwrittenBuffer)
  | .emits w => .word .dac16 (bytesOfHalf w) (tickCommit s)

/-- An agent's step. -/
def agentFetch (s : State) : Agent → Fetched
  | .host => hostFetch s
  | .ctl => ctlFetch s
  | .emt => emtFetch s

/-- The next step: none after a fault or a refusal (60_exceptions.md R290, R294), otherwise the chosen agent's. -/
def fetch (s : State) : Fetched :=
  if s.fault ≠ [] then .done (.fault .stopped)
  else if s.refused ≠ none then .done (.refused .stopped)
  else
    match mover s with
    | none => .done (.fault (noStepReason s))
    | some a => agentFetch (takeTurn s) a

/-- Bytes that are no instruction: a reserved host code refuses the state (30_encoding.md R101); anything else is
no word of the block. -/
def rejectWord (bytes : List Byte) (e : DecodeError) (s : State) :
    Host.Outcome State Fault Refusal :=
  match e with
  | .reservedOp code => .next (issueReserved code bytes.tail s)
  | _ => .refused (.undecodable e)

/-! ## Placing a word where the next step fetches it (log 19) -/

/-- HOST's next line, in a state where HOST may issue. -/
def placeLine (bytes : List Byte) (s : State) : State :=
  { s with
    busy := false
    env := { s.env with
      program := .issue bytes :: s.env.program, sched := .host :: s.env.sched } }

/-- A call of SendCmd on the frame, by nobody (log 18). -/
def placeFrame (bytes : List Byte) (s : State) : State :=
  { s with k := .send bytes .solo, env := { s.env with sched := .ctl :: s.env.sched } }

/-- A tick about to emit the frame word: the timer armed, and a 16-bit sample in the active buffer whose
frame, under the Full map and the word's own prefix, is the word. -/
def placeSample (w : Half) (s : State) : State :=
  { s with
    cfg := { s.cfg with dacPrefix := w.extractLsb' 12 4, hiBitMap := Params.fullMap }
    fmt := { s.fmt with bps := 16#8, size := 2#32 }
    timerArmed := true
    fifo :=
      { (s.fifo.setBuf s.fifo.act
            ((s.fifo.buf s.fifo.act).writeFrom 0
              [w.extractLsb' 0 4 ++ 0x0#4, w.extractLsb' 4 8 ^^^ 0x80#8])).setLen s.fifo.act 2 with
        cur := 0, endp := 2, played := 0#32 }
    env := { s.env with sched := .emt :: s.env.sched } }

/-- The state whose next step fetches the word: not stopped, and the word where its port's agent finds it. -/
def placeWord (nbits w : Nat) (s : State) : State :=
  let s' := { s with fault := [], refused := none }
  match tablePort nbits with
  | .sdcmd48 => placeFrame (tableBytes nbits w) s'
  | .dac16 => placeSample (BitVec.ofNat 16 w) s'
  | .hostop => placeLine (tableBytes nbits w) s'

end Sys2Proof.Machine
end

