-- ==== Sys2Proof/Machine/Step.lean ====
section
/-! DEFINITION. The step of the machine: the chosen agent's step, which runs an instruction where it fetches one. -/

namespace Sys2Proof.Machine

/-- One step. Where the agent fetches a word, the word is decoded and its instruction runs in the state the
fetch leaves; every other step is the agent's own. -/
def step (s : State) : Host.Outcome State Fault Refusal :=
  match fetch s with
  | .done o => o
  | .word p bytes s' =>
    match decodeWord p bytes with
    | .ok i => exec i s'
    | .error e => rejectWord bytes e s'

/-- The state with a table word placed where `step` fetches its next instruction (log 19). -/
def State.withFetchWord (s : State) (nbits w : Nat) : State := placeWord nbits w s

end Sys2Proof.Machine
end

