-- ==== Sys2Proof/Safety.lean ====
section
/-! DEFINITION. The terms claims are stated in: the launch premises of 70_reset_and_hazards.md R326, the end of a run
and the observation (R335), fairness (R336), the invariants of 10_state.md R38 with what makes them hold from
step to step, and the pseudocode of INIT and READP as functions of the card's answers alone. -/

namespace Sys2Proof.Machine

/-! ## Launch premises (70_reset_and_hazards.md R326) -/

/-- Every register has its value of R320. `DAC_SDI`, which R320 leaves open, the parameters, destination
memory, which reset does not reach (R323), and the outside are free. -/
abbrev AtReset (s : State) : Prop :=
  s.ct = ctNone ∧ s.sdCs = .deasserted ∧ s.busy = false ∧ s.op = none ∧ s.k = .idle ∧
  s.result = 0xFF#8 ∧ s.latch = State.reset.latch ∧ s.fifo = State.reset.fifo ∧
  s.fmt = State.reset.fmt ∧ s.timerArmed = false ∧ s.dac.cs = .deasserted ∧
  s.dac.sck = false ∧ s.fault = [] ∧ s.refused = none ∧ s.hist = []

/-- `FAULT = {}` and `REFUSED = false`. -/
abbrev NoFault (s : State) : Prop := s.fault = [] ∧ s.refused = none

/-- `BUSY = 0`, `CTL.k = idle` and `TIMER_ARMED = 0`. -/
abbrev Idle (s : State) : Prop := s.busy = false ∧ s.k = .idle ∧ s.timerArmed = false

/-- `CT` is one of 0x01, 0x02, 0x04 and 0x0C. -/
abbrev CardUp (s : State) : Prop := ctLegal s.ct ∧ s.ct ≠ ctNone

/-- `FMT_VALID = 1` and `FMT_BPS` is 8 or 16. -/
abbrev FormatLoaded (s : State) : Prop := s.fmt.valid = true ∧ (s.fmt.bps = 8#8 ∨ s.fmt.bps = 16#8)

/-! ## The end of a run, the observation and fairness (R335, R336) -/

/-- The last event of the history is a Done. DESIGN CHOICE (log 22): where no line has been issued there is no
last operation, R335 is silent, and this is false of an empty history. Safe for a claim that a run ends. -/
def lastIsDone (s : State) : Bool :=
  match s.hist.getLast? with
  | some (.done _ _) => true
  | _ => false

/-- The run has ended: no fault, idle, every line issued, the last operation's Done recorded (R335).
DESIGN CHOICE (log 22): from an empty history, the run of a program that issues nothing has not ended. -/
abbrev RunEnded (s : State) : Prop :=
  NoFault s ∧ Idle s ∧ s.env.program = [] ∧ lastIsDone s = true

/-- The observation of an ended run: the history, the final registers and destination memory (R335). -/
def observation (s : State) : List Event × State × Memory :=
  (s.hist, { s with hist := [], mem := [], env := State.reset.env }, s.mem)

/-- An infinite run. -/
def InfiniteRun (r : Nat → State) : Prop := ∀ n, step (r n) = .next (r (n + 1))

/-- The agent is treated fairly: from no point on does it always have a step and never take one (R336). -/
def FairTo (a : Agent) (r : Nat → State) : Prop :=
  ∀ n, ∃ m, n ≤ m ∧ (hasStep (r m) a = false ∨ mover (r m) = some a)

/-- A weakly fair run (R336). -/
def WeaklyFair (r : Nat → State) : Prop := ∀ a, FairTo a r

/-! ## What the continuation says -/

/-- The call of SendCmd a point of CTL belongs to. -/
def kontRet : Kont → Option Ret
  | .send _ ret | .dummy1 _ ret | .select _ ret | .dummy2 _ ret | .transmit _ ret | .poll _ ret =>
    some ret
  | _ => none

/-- The operation that makes a call of SendCmd. -/
def retOp : Ret → Option HostOp
  | .solo => none
  | .readBlock => some .readp
  | _ => some .init

/-- The operation that ends after a release. -/
def endOp : EndOf → HostOp
  | .init _ => .init
  | .readp _ => .readp

/-- The operation a point of CTL belongs to. -/
def kontOp : Kont → Option HostOp
  | .idle => none
  | .start op => some op
  | .clocks _ | .tail _ _ => some .init
  | .send _ ret | .dummy1 _ ret | .select _ ret | .dummy2 _ ret | .transmit _ ret | .poll _ ret =>
    retOp ret
  | .token _ | .payload _ => some .readp
  | .releaseDesel e | .releaseDummy e => some (endOp e)
  | .primeA | .primeB | .primeSet | .primeArm | .loopPlayed | .loopStatus | .refill _
  | .refillReady | .playFail _ => some .play

/-- PLAY's points at which the timer is armed (42_fifo_refill.md R210, R216, R220). -/
def inPlayLoop : Kont → Bool
  | .loopPlayed | .loopStatus | .refill _ | .refillReady | .playFail _ => true
  | _ => false

/-- The points of CTL at which the card is deselected (40_framer_and_init.md R121, R124, R125). -/
def cardReleased : Kont → Bool
  | .send _ _ | .dummy2 _ _ | .transmit _ _ | .poll _ _ | .tail _ _ | .token _ | .payload _
  | .releaseDesel _ => false
  | _ => true

/-- The classification a point of INIT carries towards `CT`. -/
def pendingType : Kont → Option (BitVec 4)
  | .releaseDesel (.init ty) | .releaseDummy (.init ty) => some ty
  | k =>
    match kontRet k with
    | some (.legacyPoll _ ty) | some (.setBlocklen ty) => some ty
    | _ => none

/-! ## Invariants -/

/-- The memories keep their canonical form. -/
abbrev MemoryInv (s : State) : Prop := s.mem.wf ∧ s.fifo.bufA.wf ∧ s.fifo.bufB.wf

/-- `CT` is a legal value, and so is the classification INIT carries (10_state.md R38 item 1). -/
def CardTypeInv (s : State) : Prop :=
  ctLegal s.ct ∧ ∀ ty, pendingType s.k = some ty → ctLegal ty

/-- `BUSY`, `OP` and the continuation agree, and no frame is sent on its own: one operation runs at a time
(10_state.md R22, 40_framer_and_init.md R120). -/
def OperationInv (s : State) : Prop :=
  s.busy = s.op.isSome ∧ s.op = kontOp s.k ∧ kontRet s.k ≠ some .solo

/-- The card is deselected wherever the framer is not at work (40_framer_and_init.md R125). -/
def BusInv (s : State) : Prop :=
  OperationInv s ∧ (cardReleased s.k = true → s.sdCs = .deasserted)

/-- The timer is armed exactly in PLAY's loop (42_fifo_refill.md R210, R216, R220, 60_exceptions.md R302). -/
def TimerInv (s : State) : Prop := OperationInv s ∧ s.timerArmed = inPlayLoop s.k

/-- Every byte of the buffer's live range has been written (10_state.md R26). -/
def Filled (f : Fifo) (k : BufId) : Prop := ∀ i, i < f.len k → (f.buf k).read i ≠ none

/-- Which live ranges are written, and what holds of the refill, at each point of PLAY. -/
def playPoint (s : State) : Prop :=
  match s.k with
  | .primeB => Filled s.fifo .bufA
  | .primeSet | .primeArm | .loopPlayed | .loopStatus => Filled s.fifo .bufA ∧ Filled s.fifo .bufB
  | .refill t =>
    Filled s.fifo .bufA ∧ Filled s.fifo .bufB ∧ s.fifo.status = statusFilling ∧ t = s.fifo.act.other
  | .refillReady => Filled s.fifo .bufA ∧ Filled s.fifo .bufB ∧ s.fifo.status = statusFilling
  | .playFail _ => Filled s.fifo s.fifo.act ∧ s.fifo.status = statusFilling
  | _ => True

/-- A playback is set up: `END = LEN[ACT]` and `PLAYED` within its bound, from `primeArm` on (10_state.md R38 items 3, 4). -/
def playRange (s : State) : Prop :=
  (s.k = .primeArm ∨ s.timerArmed = true) →
    s.fifo.endp = s.fifo.len s.fifo.act ∧
    s.fifo.played.toNat ≤ s.fmt.size.toNat + sampleWidth s - 1

/-- The playback invariant: items 3, 4 and 5 of 10_state.md R38, with what carries them. -/
def StreamInv (s : State) : Prop :=
  TimerInv s ∧ s.fifo.lenA ≤ s.cfg.bufSize ∧ s.fifo.lenB ≤ s.cfg.bufSize ∧
  s.fifo.cur ≤ s.fifo.endp ∧ s.fifo.endp ≤ s.cfg.bufSize ∧
  (s.fifo.status = statusReady ∨ s.fifo.status = statusFilling) ∧ playRange s ∧ playPoint s

/-- The frame a call of SendCmd names is the one 40_framer_and_init.md R130 and 41_block_read.md R172 send there. -/
def calledFrame (p : Params) (frame : List Byte) : Ret → Prop
  | .solo => False
  | .goIdle => frame = frameCmd0
  | .ifCond => frame = frameCmd8
  | .hcsPrefix _ | .probePrefix | .legacyPrefix _ => frame = frameCmd55 p
  | .hcsPoll _ => frame = frameAcmd41Hcs p
  | .readOcr => frame = frameCmd58 p
  | .probe => frame = frameAcmd41Zero p
  | .legacyPoll _ ty => frame = if ty = ctSd1 then frameAcmd41Zero p else frameCmd1 p
  | .setBlocklen _ => frame = frameCmd16 p
  | .readBlock => ∃ addr, frame = frameCmd17 p addr

/-- The block transmits no frame but those of 30_encoding.md R85. -/
def FrameInv (s : State) : Prop :=
  OperationInv s ∧
  match s.k with
  | .send frame ret | .dummy1 frame ret | .select frame ret | .dummy2 frame ret =>
    calledFrame s.cfg frame ret
  | .transmit rest ret => ∃ sent frame, calledFrame s.cfg frame ret ∧ frame = sent ++ rest
  | _ => True

/-! ## Bus transcripts (30_encoding.md R103) -/

/-- The events of one SendCmd whose exchanges were answered by `ans`: the bracket's deselect, its dummy
receive, its select, and then with the card selected the second dummy, the six frame bytes and the R1 poll
(40_framer_and_init.md R121, R122). -/
def sendEvents (frame ans : List Byte) : List Event :=
  .csDeassert :: .busX .deasserted 0xFF#8 (ans.headD 0#8) :: .csAssert ::
    List.zipWith (fun o i => .busX .asserted o i)
      (0xFF#8 :: (frame ++ List.replicate (ans.length - 8) 0xFF#8)) ans.tail

/-- Receives answered by `ans` with the card selected. -/
def receiveEvents (ans : List Byte) : List Event := ans.map fun i => .busX .asserted 0xFF#8 i

/-- Exchanges of 0xFF answered by `ans` with the card deselected. -/
def deselectedEvents (ans : List Byte) : List Event :=
  ans.map fun i => .busX .deasserted 0xFF#8 i

/-- The answers of `ans` used up when `rest` are left. -/
def used (ans rest : List Byte) : List Byte := ans.take (ans.length - rest.length)

/-! ## The pseudocode of INIT and READP over the card's answers

Each function takes the answers still to come and gives what the rules make of them with the answers left,
or none where the answers end first. Those of INIT give the bus events too. -/

/-- `n` exchanges whose answers are ignored. -/
def refSkip (n : Nat) (ans : List Byte) : Option (List Byte) :=
  if n ≤ ans.length then some (ans.drop n) else none

/-- The R1 poll with `n` receives left (40_framer_and_init.md R122). -/
def refPoll : Nat → List Byte → Option (Byte × List Byte)
  | _, [] => none
  | n, r :: ans => if r1Valid r ∨ n ≤ 1 then some (r, ans) else refPoll (n - 1) ans

/-- SendCmd: 2 bracket dummies, 6 frame bytes, the poll (R122). -/
def refSend (p : Params) (ans : List Byte) : Option (Byte × List Byte) :=
  (refSkip 8 ans).bind (refPoll p.nR1)

/-- What a stretch of INIT makes of the card's answers: its value, its bus events in order, the answers left. -/
abbrev Talk (α : Type) := Option (α × List Event × List Byte)

/-- One stretch, and then the one its value leads to. -/
def Talk.andThen {α β : Type} (first : Talk α) (next : α → List Byte → Talk β) : Talk β :=
  first.bind fun (a, events, rest) =>
    (next a rest).map fun (b, more, left) => (b, events ++ more, left)

/-- A value, and nothing on the bus. -/
def Talk.quiet {α : Type} (a : α) (ans : List Byte) : Talk α := some (a, [], ans)

/-- SendCmd of a frame (R121, R122). -/
def refSendCmd (p : Params) (frame ans : List Byte) : Talk Byte :=
  (refSend p ans).map fun (r, rest) => (r, sendEvents frame (used ans rest), rest)

/-- SendACmd of a frame (R123). -/
def refSendA (p : Params) (frame ans : List Byte) : Talk Byte :=
  (refSendCmd p (frameCmd55 p) ans).andThen fun r rest =>
    if r1AtMostIdle r then refSendCmd p frame rest else .quiet r rest

/-- Four trailing bytes (R133, R135). -/
def refTail (ans : List Byte) : Talk (List Byte) :=
  (refSkip 4 ans).map fun rest => (ans.take 4, receiveEvents (ans.take 4), rest)

/-- An op-cond poll of at most so many attempts: whether one answered ready (R134, R141). -/
def refOpCond (attempt : List Byte → Talk Byte) : Nat → List Byte → Talk Bool
  | 0, ans => .quiet false ans
  | n + 1, ans =>
    (attempt ans).andThen fun r rest =>
      if r1Ready r then .quiet true rest else refOpCond attempt n rest

/-- The SD v2 path after an accepted CMD8 (R133 to R136). -/
def refSdV2 (p : Params) (ans : List Byte) : Talk (BitVec 4) :=
  (refTail ans).andThen fun echo rest =>
    if echoAccepted echo then
      (refOpCond (refSendA p (frameAcmd41Hcs p)) p.nOpcond rest).andThen fun ready rest =>
        if ready then
          (refSendCmd p (frameCmd58 p) rest).andThen fun r rest =>
            if r1Ready r then (refTail rest).andThen fun ocr rest => .quiet (classifyOcr ocr) rest
            else .quiet ctNone rest
        else .quiet ctNone rest
    else .quiet ctNone rest

/-- An attempt of the legacy op-cond poll: the command the classification chose (R140, R141). -/
def refLegacyAttempt (p : Params) (ty : BitVec 4) : List Byte → Talk Byte :=
  if ty = ctSd1 then refSendA p (frameAcmd41Zero p) else refSendCmd p (frameCmd1 p)

/-- The legacy path after a rejected CMD8 (R139 to R142). -/
def refLegacy (p : Params) (ans : List Byte) : Talk (BitVec 4) :=
  (refSendA p (frameAcmd41Zero p) ans).andThen fun r rest =>
    (refOpCond (refLegacyAttempt p (classifyProbe r)) p.nOpcond rest).andThen fun ready rest =>
      if ready then
        (refSendCmd p (frameCmd16 p) rest).andThen fun r16 rest =>
          .quiet (if r1Ready r16 then classifyProbe r else ctNone) rest
      else .quiet ctNone rest

/-- The power-up: deselect, and the exchanges with the card deselected (R131). -/
def refPowerUp (p : Params) (ans : List Byte) : Talk Unit :=
  (refSkip p.nPwrupBytes ans).map fun rest =>
    ((), .csDeassert :: deselectedEvents (ans.take p.nPwrupBytes), rest)

/-- INIT up to its release: the classification (R130). -/
def refClassify (p : Params) (ans : List Byte) : Talk (BitVec 4) :=
  (refPowerUp p ans).andThen fun _ rest =>
    (refSendCmd p frameCmd0 rest).andThen fun r rest =>
      if r1Idle r then
        (refSendCmd p frameCmd8 rest).andThen fun r rest =>
          if r1Idle r then refSdV2 p rest else refLegacy p rest
      else .quiet ctNone rest

/-- The release (R124). -/
def refRelease (ans : List Byte) : Talk Unit :=
  (refSkip 1 ans).map fun rest => ((), .csDeassert :: deselectedEvents (ans.take 1), rest)

/-- INIT: the classification, the whole bus transcript, and the answers left after the release (R130, R124). -/
def refInit (p : Params) (ans : List Byte) : Talk (BitVec 4) :=
  (refClassify p ans).andThen fun ty rest =>
    (refRelease rest).andThen fun _ left => .quiet ty left

/-- The token poll with `n` receives left: its last byte (41_block_read.md R174). -/
def refToken : Nat → List Byte → Option (Byte × List Byte)
  | _, [] => none
  | n, rc :: ans => if rc ≠ noTokenYet ∨ n ≤ 1 then some (rc, ans) else refToken (n - 1) ans

/-- READP from CMD17 to its release: the result code, the 514 bytes after the token where it came, and the
answers left after the release (R172). -/
def refRead (p : Params) (ans : List Byte) : Option (Byte × List Byte × List Byte) :=
  ((refSend p ans).bind fun (r, rest) =>
    if r1Ready r then
      (refToken p.nToken rest).bind fun (rc, rest) =>
        if rc = dataToken then (refSkip 514 rest).map fun left => (resOk, rest.take 514, left)
        else some (tokenFailure rc, [], rest)
    else some (cmd17Failure r, [], rest)).bind fun (code, payload, rest) =>
      (refSkip 1 rest).map fun left => (code, payload, left)

/-! ## Runs, and what the transcripts of 95_test_vectors.md list -/

/-- `n` steps lead from `s` to `u`. -/
def Runs (n : Nat) (s u : State) : Prop := Host.Core.run Sys2Proof.core n s = .next u

/-- An operation is in progress and CTL alone can move: HOST waits for `BUSY`, and the timer is not armed. -/
abbrev CtlAlone (s : State) : Prop :=
  NoFault s ∧ s.busy = true ∧ s.timerArmed = false

/-- HOST may issue, and after it CTL alone moves. -/
abbrev Ready (s : State) : Prop := NoFault s ∧ Idle s

/-- The state with the schedule's next `n` entries used up. -/
def afterTurns (n : Nat) (s : State) : State :=
  { s with env := { s.env with sched := s.env.sched.drop n } }

/-- The schedule that lets CTL and EMT move in turn, `m` times each. -/
def alternating : Nat → List Agent
  | 0 => []
  | m + 1 => .ctl :: .emt :: alternating m

/-- An event is an SD exchange. -/
def isExchange : Event → Bool
  | .busX _ _ _ => true
  | _ => false

/-- An event is an action of the SD bus (00_scope.md R11). -/
def isSdEvent : Event → Bool
  | .busX _ _ _ | .csAssert | .csDeassert => true
  | _ => false

/-- The most CTL steps one SendCmd takes (40_framer_and_init.md R145). -/
def sendBound (p : Params) : Nat := 10 + max 1 p.nR1

/-- The most CTL steps INIT takes after its issue (70_reset_and_hazards.md R337). -/
def initBound (p : Params) : Nat := 11 + p.nPwrupBytes + (2 * p.nOpcond + 5) * sendBound p

/-- The most CTL steps READP takes after its issue (R337). -/
def readpBound (p : Params) : Nat := 517 + sendBound p + max 1 p.nToken

/-- The state after a DAC frame, by the frame's result only: the lines at rest with bit 0 still on the data
line, and the frame recorded (43_emitter.md R256, 10_state.md R34). -/
def frameSent (w : Half) (s : State) : State :=
  { s with
    dac := { cs := .deasserted, sck := false, sdi := w.getLsbD 0 }, hist := s.hist ++ [.dacFrame w] }

/-- The host-visible registers by number (10_state.md R37). -/
def registerTable (s : State) : List Word :=
  [match s.op with | some op => (hostOpCode op).setWidth 32 | none => 0#32,
    s.result.setWidth 32, if s.busy then 1#32 else 0#32, s.ct.setWidth 32, s.latch.sector,
    s.latch.offset.setWidth 32, s.latch.count.setWidth 32, if s.latch.destEn then 1#32 else 0#32,
    s.latch.dest, s.latch.bps.setWidth 32, s.latch.rate, s.latch.size,
    if s.fmt.valid then 1#32 else 0#32, s.fifo.status.setWidth 32,
    if s.timerArmed then 1#32 else 0#32, s.fifo.played]

end Sys2Proof.Machine
end

