-- ==== Sys2Proof/Certificates/Slice0/Obligations.lean ====
section
/-! DEFINITION. The statements for the provers. Each is about the machine, never about a program; each docstring says
which rules of spec/ it formalises. -/

open Sys2Proof Sys2Proof.Machine

/-! ## Encodings -/

/-- Decoding an encoded instruction gives it back with the bytes that follow, for every instruction and every
operand value (30_encoding.md R80, R85, R96, R100; the HOSTOP byte layout is the model's, log 7). -/
def Obligations.DecodeEncodeAgree : Prop :=
  ∀ (i : Instr) (rest : List Byte), decode i.port (encode i ++ rest) = .ok (i, rest)

/-- Bytes that decode at a port are the encoding of what they decode to, and it belongs to that port: no bit
of a word is ignored, and no two words are one instruction (30_encoding.md R80, R85, R96, R100; log 7). -/
def Obligations.DecodedBytesAreTheEncoding : Prop :=
  ∀ (p : Port) (bytes : List Byte) (i : Instr),
    decodeWord p bytes = .ok i → encode i = bytes ∧ i.port = p

/-- A few words written out from 30_encoding.md R85, 43_emitter.md R253 and 30_encoding.md R100. -/
def Obligations.SpecWordsDecode : Prop :=
  decodeWord .sdcmd48 [0x40, 0x00, 0x00, 0x00, 0x00, 0x95] = .ok .cmd0 ∧
  decodeWord .sdcmd48 [0x48, 0x00, 0x00, 0x01, 0xAA, 0x87] = .ok .cmd8 ∧
  decodeWord .sdcmd48 [0x50, 0x00, 0x00, 0x02, 0x00, 0x01] = .ok (.cmd16 0x01) ∧
  decodeWord .sdcmd48 [0x51, 0x00, 0x00, 0x06, 0x00, 0x01] = .ok (.cmd17 0x600 0x01) ∧
  decodeWord .sdcmd48 [0x69, 0x40, 0x00, 0x00, 0x00, 0x01] = .ok (.acmd41Hcs 0x01) ∧
  decodeWord .dac16 [0x39, 0x23] = .ok (.dacWrite 0x3 0x923) ∧
  decodeWord .hostop [0x01] = .ok .init ∧
  decodeWord .hostop [0x06, 0x08, 0x00, 0x00, 0x1F, 0x40, 0x00, 0x00, 0x00, 0x04] =
    .ok (.loadfmt 8 8000 4) ∧
  decodeWord .hostop [0x07] = .ok .play

/-- Every frame CTL calls SendCmd on is a well-formed command of the opcode map, so the fetch of a frame is
never rejected (30_encoding.md R85, R83; 00_scope.md R7 for the placeholder's stop bit). -/
def Obligations.CalledFramesAreCommands : Prop :=
  ∀ (p : Params) (frame : List Byte) (ret : Ret), p.crcPlaceholder.getLsbD 0 = true → calledFrame p frame ret →
    ∃ i, i.wellFormed = true ∧ i.port = .sdcmd48 ∧ encode i = frame ∧
      decodeWord .sdcmd48 frame = .ok i

/-- A host code 0x00 or 0x08 to 0xFF is recorded and refused, and no other register changes (30_encoding.md R101,
60_exceptions.md R300, R294). That Issue holds the line's bytes after the code is the model's layout (log 7). -/
def Obligations.ReservedHostCodeRefuses : Prop :=
  ∀ (s : State) (code : Byte) (operands : List Byte) (more : List HostLine),
    NoFault s → mover s = some .host → s.env.program = .issue (code :: operands) :: more →
    code = 0x00#8 ∨ 8 ≤ code.toNat →
    step s = .next
      { takeTurn s with
        refused := some .reservedOp
        hist := s.hist ++ [.issue code operands]
        env := { (takeTurn s).env with program := more } }

/-! ## The step -/

/-- Where the agent that moves fetches a word that decodes, the step is `exec` of its instruction: HOST's line
past which HOST has moved, the frame CTL's call of SendCmd names, and the frame word of EMT's tick after the
tick's own writes (00_scope.md R6, R14; 40_framer_and_init.md R122; 43_emitter.md R241). -/
def Obligations.StepRunsTheDecodedInstruction : Prop :=
  ∀ (s : State) (i : Instr), NoFault s →
    (∀ bytes more, mover s = some .host → s.env.program = .issue bytes :: more →
      decodeWord .hostop bytes = .ok i → step s = exec i (popLine (takeTurn s))) ∧
    (∀ frame ret, mover s = some .ctl → s.k = .send frame ret →
      decodeWord .sdcmd48 frame = .ok i → step s = exec i (takeTurn s)) ∧
    (∀ w, mover s = some .emt → tick s = .emits w →
      decodeWord .dac16 (bytesOfHalf w) = .ok i → step s = exec i (tickCommit (takeTurn s)))

/-- A step that fetches no word: HOST's register read, CTL's own step, and a tick that emits nothing
(10_state.md R37; 00_scope.md R14; 43_emitter.md R242, 60_exceptions.md R290). -/
def Obligations.StepsThatFetchNothing : Prop :=
  ∀ (s : State), NoFault s →
    (∀ n more, mover s = some .host → s.env.program = .read n :: more →
      step s = .next (hostRead n (popLine (takeTurn s)))) ∧
    (mover s = some .ctl → (∀ frame ret, s.k ≠ .send frame ret) →
      step s = .next (ctlStep (takeTurn s))) ∧
    (mover s = some .emt → tick s = .ack → step s = .next (takeTurn s)) ∧
    (∀ kind, mover s = some .emt → tick s = .raises kind →
      step s = .next { takeTurn s with fault := [kind] })

/-- Any agent that has a step may take the next one: the schedule decides, and there is no priority
(60_exceptions.md R288, R305). -/
def Obligations.AnyEnabledAgentMayMove : Prop :=
  ∀ (s : State) (a : Agent) (later : List Agent), hasStep s a = true →
    mover { s with env := { s.env with sched := a :: later } } = some a

/-- Where the machine stops: after a fault or a refusal no agent has a step; and with no agent enabled the
machine stops by name: CTL at a destination byte where `DestOK` is false, EMT held, HOST held by `BUSY`, or
nothing left to do (60_exceptions.md R290, R291, R294, 70_reset_and_hazards.md R321, R328; the names are the model's,
log 5, log 15). -/
def Obligations.WhereTheMachineStops : Prop :=
  ∀ (s : State),
    (s.fault ≠ [] → step s = .fault .stopped) ∧
    (s.fault = [] → s.refused ≠ none → step s = .refused .stopped) ∧
    (NoFault s → (∀ a, hasStep s a = false) →
      step s = .fault
        (if s.k ≠ .idle then .destStuck
         else if s.timerArmed then .tickHeld
         else if s.env.program ≠ [] then .hostBusy
         else .nothingLeft))

/-- The parameters never change, and a step only appends to the history, at most two events (00_scope.md R7,
10_state.md R36, 70_reset_and_hazards.md R325). -/
def Obligations.ParametersFixedAndHistoryGrows : Prop :=
  ∀ (s t : State), step s = .next t →
    t.cfg = s.cfg ∧ ∃ events, t.hist = s.hist ++ events ∧ events.length ≤ 2

/-! ## The command frames -/

/-- Each of the nine frames begins at a call of SendCmd: the bracket's deselect is the step, and the six bytes
of the frame go to the framer with the caller kept. Nothing else changes (40_framer_and_init.md R121, R122, R150 to R157,
41_block_read.md R173). -/
def Obligations.FramesBeginTheirSendCmd : Prop :=
  ∀ (s : State) (called : List Byte) (ret : Ret) (addr : Word) (crc : Byte),
    s.k = .send called ret →
    let begun (frame : List Byte) : State :=
      { s with sdCs := .deasserted, k := .dummy1 frame ret, hist := s.hist ++ [.csDeassert] }
    exec .cmd0 s = .next (begun [0x40, 0, 0, 0, 0, 0x95]) ∧
    exec (.cmd1 crc) s = .next (begun [0x41, 0, 0, 0, 0, crc]) ∧
    exec .cmd8 s = .next (begun [0x48, 0, 0, 0x01, 0xAA, 0x87]) ∧
    exec (.cmd16 crc) s = .next (begun [0x50, 0, 0, 0x02, 0, crc]) ∧
    exec (.cmd17 addr crc) s = .next
      (begun [0x51, addr.extractLsb' 24 8, addr.extractLsb' 16 8, addr.extractLsb' 8 8,
        addr.extractLsb' 0 8, crc]) ∧
    exec (.cmd55 crc) s = .next (begun [0x77, 0, 0, 0, 0, crc]) ∧
    exec (.acmd41Hcs crc) s = .next (begun [0x69, 0x40, 0, 0, 0, crc]) ∧
    exec (.acmd41Zero crc) s = .next (begun [0x69, 0, 0, 0, 0, crc]) ∧
    exec (.cmd58 crc) s = .next (begun [0x7A, 0, 0, 0, 0, crc])

/-- A command frame with CTL alone at work puts the bracket, its six bytes and the R1 poll on the bus, as
`sendEvents` lists them, one exchange per answer of the card used, and hands the R1 that `refSend` reads to its
caller in the last receive's step (log 6). `SD_CS` stays asserted and nothing else changes (40_framer_and_init.md R121,
R122, R145). -/
def Obligations.SendCmdTranscript : Prop :=
  ∀ (i : Instr) (s : State) (called : List Byte) (ret : Ret) (r : Byte) (rest : List Byte),
    i.port = .sdcmd48 → s.k = .send called ret → CtlAlone s →
    refSend s.cfg s.env.card = some (r, rest) →
    ∃ t : State, exec i s = .next t ∧
      Runs (s.env.card.length - rest.length + 1) t
        (afterTurns (s.env.card.length - rest.length + 1)
          { s with
            sdCs := .asserted
            k := afterR1 s.cfg ret r
            hist := s.hist ++ sendEvents (encode i) (used s.env.card rest)
            env := { s.env with card := rest } })

/-- The block transmits no frame but those its pseudocode names at that point, in every state a step reaches
from one where this holds (30_encoding.md R85; 40_framer_and_init.md R130, 41_block_read.md R172). -/
def Obligations.EveryStepKeepsFrames : Prop :=
  ∀ (s t : State), FrameInv s → step s = .next t → FrameInv t

/-! ## The DAC frame -/

/-- DAC_WRITE sends its frame and changes nothing but the DAC lines and the history: the lines come to rest
with chip select inactive, the clock low and bit 0 on the data line (43_emitter.md R253, R256, 10_state.md R34). -/
def Obligations.DacWriteSendsItsFrame : Prop :=
  ∀ (ctrl : BitVec 4) (data : BitVec 12) (s : State),
    exec (.dacWrite ctrl data) s = .next
      { s with
        dac := { cs := .deasserted, sck := false, sdi := data.getLsbD 0 }
        hist := s.hist ++ [.dacFrame (ctrl ++ data)] }

/-- The DAC samples the 16 bits of the frame word, bit 15 first and bit 0 last (20_memory.md R68). -/
def Obligations.DacFrameGoesBit15First : Prop :=
  ∀ (w : Half) (d : DacLines), d.sck = false →
    sampledBits d (dacActs w) = (List.range 16).map fun j => w.getLsbD (15 - j)

/-- The bits of the frame word of a sample value: the prefix in bits 15 to 12, the mapped high byte in bits 11
to 4, `V[7:4]` in bits 3 to 0. With the Full map the data field is `V[15:4]`. With every Lossy map each bit of the
high byte but bit 0 is in some slot, and two samples that differ in bit 8 alone have one frame word
(43_emitter.md R251, R252, R253; what a Lossy map is: log 23). -/
def Obligations.FrameWordBits : Prop :=
  ∀ (p : Params) (v : Half),
    (∀ j : Fin 4, (frameWord p v).getLsbD (12 + j.val) = p.dacPrefix.getLsbD j.val) ∧
    (∀ j : Fin 8, (frameWord p v).getLsbD (4 + j.val) = v.getLsbD (8 + (p.hiBitMap[j]).val)) ∧
    (∀ j : Fin 4, (frameWord p v).getLsbD j.val = v.getLsbD (4 + j.val)) ∧
    (p.hiBitMap = Params.fullMap → (frameWord p v).extractLsb' 0 12 = v.extractLsb' 4 12) ∧
    (Params.lossyMap p.hiBitMap →
      (∀ i : Fin 8, i ≠ 0 → ∃ j : Fin 8, p.hiBitMap[j] = i) ∧
      frameWord p (v ^^^ 0x0100#16) = frameWord p v)

/-- The 16-bit sample value is the signed sample moved up by 32768, and the frame's top data bit is the inverse
of the sample's sign bit where slot 7 carries bit 7 (43_emitter.md R249, R254). -/
def Obligations.SignFlipCentresTheSample : Prop :=
  ∀ (p : Params) (b0 b1 : Byte),
    ((sampleValue16 b0 b1).toNat : Int) = ((b1 ++ b0 : BitVec 16).toInt + 32768) ∧
    ((p.hiBitMap[7]).val = 7 →
      (frameWord p (sampleValue16 b0 b1)).getLsbD 11 = !b1.getLsbD 7) ∧
    (frameWord p (sampleValue16 b0 b1)).extractLsb' 0 4 = b0.extractLsb' 4 4 ∧
    (frameWord p (sampleValue8 b0)).extractLsb' 0 4 = 0#4

/-! ## Issuing an operation -/

/-- Each host operation is accepted where HOST may issue: Issue recorded with the operand bytes, the latches the
operation uses written, `BUSY` and `OP` set, CTL at the operation's first line, and nothing else (60_exceptions.md R300,
10_state.md R25; log 7, log 9). -/
def Obligations.HostOperationsIssue : Prop :=
  ∀ (s : State) (sector dest n src len rate size : Word) (offset count : BitVec 10) (destEn : Bool)
    (bps : Byte),
    NoFault s → s.busy = false →
    let issued (op : HostOp) (code : Byte) (operands : List Byte) (l : Latches) : State :=
      { s with
        latch := l, busy := true, op := some op, k := .start op,
        hist := s.hist ++ [.issue code operands] }
    exec .init s = .next (issued .init 0x01 [] s.latch) ∧
    exec (.readp sector offset count destEn dest) s = .next
      (issued .readp 0x02
        (bytesOfWord sector ++ bytesOfTen offset ++ bytesOfTen count ++ [byteOfFlag destEn] ++
          bytesOfWord dest)
        { s.latch with
          sector := sector, offset := offset, count := count, destEn := destEn, dest := dest }) ∧
    exec (.writepInit n) s = .next (issued .writepInit 0x03 (bytesOfWord n) s.latch) ∧
    exec (.writepAppend src len) s = .next
      (issued .writepAppend 0x04 (bytesOfWord src ++ bytesOfWord len) s.latch) ∧
    exec .writepFinal s = .next (issued .writepFinal 0x05 [] s.latch) ∧
    exec (.loadfmt bps rate size) s = .next
      (issued .loadfmt 0x06 (bps :: (bytesOfWord rate ++ bytesOfWord size))
        { s.latch with bps := bps, rate := rate, size := size }) ∧
    exec .play s = .next (issued .play 0x07 [] s.latch)

/-- Where running an instruction stops: HOST has no issue step while `BUSY = 1`, after a fault or after a refusal,
and in a state without either it has a step exactly with a line left and `BUSY = 0`; a frame run where CTL has
not called SendCmd begins nothing, since no two commands interleave (60_exceptions.md R300, R291, R294,
40_framer_and_init.md R120; log 15, log 18). -/
def Obligations.WhereExecStops : Prop :=
  ∀ (i : Instr) (s : State),
    (i.port = .hostop → s.fault ≠ [] → exec i s = .fault .stopped) ∧
    (i.port = .hostop → s.fault = [] → s.refused ≠ none → exec i s = .refused .stopped) ∧
    (i.port = .hostop → NoFault s → s.busy = true → exec i s = .fault .hostBusy) ∧
    (NoFault s → (hasStep s .host = true ↔ s.env.program ≠ [] ∧ s.busy = false)) ∧
    (i.port = .sdcmd48 → (∀ called ret, s.k ≠ .send called ret) →
      exec i s = .fault .frameNotCalled)

/-- HOST reads registers 0x00 to 0x0F as 10_state.md R37 numbers them, zero-extended, and a number above 0x0F is
refused; a read changes nothing but what HOST has read (20_memory.md R71; how HOST reads is the model's, log 16). It
has a step only while `BUSY = 0`: no read, of `RESULT` or of any other register, is made while an operation runs
(10_state.md R24, 60_exceptions.md R291, R301). -/
def Obligations.HostReadsTheRegisterTable : Prop :=
  ∀ (s : State) (n : Byte) (more : List HostLine),
    NoFault s → s.env.program = .read n :: more →
    hasStep s .host = !s.busy ∧
    (mover s = some .host → s.busy = false) ∧
    (∀ v, mover s = some .host → (registerTable s)[n.toNat]? = some v →
      step s = .next
        { takeTurn s with env := { (takeTurn s).env with program := more, hostData := v } }) ∧
    (mover s = some .host → 15 < n.toNat →
      step s = .next
        { takeTurn s with
          refused := some .reservedReg, env := { (takeTurn s).env with program := more } })

/-- What `exec` leaves alone: no instruction's own step writes a byte of destination memory, an audio buffer, the
format, `CT`, `RESULT`, the timer or a fault; only a frame touches the SD bus line, only DAC_WRITE the DAC lines,
only a host operation `BUSY`, `OP` and the latches (60_exceptions.md R300, 40_framer_and_init.md R122, 43_emitter.md R256). -/
def Obligations.ExecFrame : Prop :=
  ∀ (i : Instr) (s t : State), exec i s = .next t →
    (∀ a, t.mem.read a = s.mem.read a) ∧
    t.fifo = s.fifo ∧ t.fmt = s.fmt ∧ t.ct = s.ct ∧ t.result = s.result ∧
    t.timerArmed = s.timerArmed ∧ t.fault = s.fault ∧ t.refused = s.refused ∧ t.cfg = s.cfg ∧
    t.env = s.env ∧
    (i.port ≠ .sdcmd48 → t.sdCs = s.sdCs) ∧
    (i.port ≠ .dac16 → t.dac = s.dac) ∧
    (i.port ≠ .hostop → t.busy = s.busy ∧ t.op = s.op ∧ t.latch = s.latch) ∧
    (i.port = .dac16 → t.k = s.k)

/-! ## The write-sector operations -/

/-- WRITEP.INIT, WRITEP.APPEND and WRITEP.FINAL are issued and then refused at their first step: no bus action,
and no register written beyond the latches, `BUSY` and `OP`, with CTL at the operation's first line
(41_block_read.md R180, 60_exceptions.md R300; the operand bytes in Issue are the model's, log 7). -/
def Obligations.WriteOperationsRefuse : Prop :=
  ∀ (s : State) (i : Instr) (n src len : Word), Ready s →
    i = .writepInit n ∨ i = .writepAppend src len ∨ i = .writepFinal →
    ∃ t : State, exec i s = .next t ∧
      t = { s with
            latch := t.latch, busy := true, op := t.op, k := t.k,
            hist := s.hist ++ [.issue ((encode i).headD 0) (encode i).tail] } ∧
      step t = .next (afterTurns 1 { t with refused := some .writeUnspecified })

/-! ## LOADFMT -/

/-- LOADFMT, whole: the width refusal, then the rate refusal, else the four format registers and OK
(42_fifo_refill.md R200, R201). -/
def Obligations.LoadfmtLoadsOrRefuses : Prop :=
  ∀ (s : State) (bps : Byte) (rate size : Word), Ready s →
    ∃ t : State, exec (.loadfmt bps rate size) s = .next t ∧
      t.latch = { s.latch with bps := bps, rate := rate, size := size } ∧
      step t = .next (afterTurns 1
        (if (bps ≠ 8#8 ∧ bps ≠ 16#8) ∨ rate = 0#32 ∨ 44100 < rate.toNat * (bps.toNat / 8) then
          { t with refused := some .formatUnmodelled }
        else
          { s with
            latch := t.latch
            fmt := { bps := bps, rate := rate, size := size, valid := true }
            result := 0x00#8, op := none
            hist := t.hist ++ [.done (some .loadfmt) 0x00#8] }))

/-! ## PLAY -/

/-- PLAY's entry: CALLER_MISUSE without a format, and nothing else changes; with one, the format is consumed and
priming starts (42_fifo_refill.md R205). -/
def Obligations.PlayEntry : Prop :=
  ∀ (s : State), Ready s →
    ∃ t : State, exec .play s = .next t ∧ t.hist = s.hist ++ [.issue 0x07#8 []] ∧
      step t = .next (afterTurns 1
        (if s.fmt.valid then { t with fmt := { s.fmt with valid := false }, k := .primeA }
        else
          { s with
            result := 0x30#8, op := none, hist := t.hist ++ [.done (some .play) 0x30#8] }))

/-- PLAY's priming when both reads answer a count, the first not 0: the live lengths, the bytes read over what
the buffers held, the cursor at A's start, `Ready`, no byte played, the timer armed. Nothing else changes
(42_fifo_refill.md R210, R211). -/
def Obligations.PlayPrimesAndArms : Prop :=
  ∀ (s : State) (a b : List Byte) (more : List FileAnswer), Ready s → s.fmt.valid = true →
    s.env.file = .count a :: .count b :: more →
    a ≠ [] → a.length ≤ s.cfg.bufSize → b.length ≤ s.cfg.bufSize →
    ∃ (t u : State), exec .play s = .next t ∧ Runs 5 t (afterTurns 5 u) ∧
      u = { s with
            busy := true, op := some .play, k := .loopPlayed
            fmt := { s.fmt with valid := false }
            fifo :=
              { bufA := u.fifo.bufA, bufB := u.fifo.bufB, lenA := a.length, lenB := b.length,
                act := .bufA, cur := 0, endp := a.length, status := 0b00#2, played := 0#32 }
            timerArmed := true
            hist := s.hist ++ [.issue 0x07#8 [], .fileRead .bufA s.cfg.bufSize (.count a),
              .fileRead .bufB s.cfg.bufSize (.count b), .arm]
            env := { s.env with file := more } } ∧
      (∀ j, u.fifo.bufA.read j = if j < a.length then a[j]? else s.fifo.bufA.read j) ∧
      (∀ j, u.fifo.bufB.read j = if j < b.length then b[j]? else s.fifo.bufB.read j)

/-- PLAY's priming that ends PLAY: no byte for A, an error for A, an error for B. The timer is never armed, and the
cursor, `STATUS` and `PLAYED` keep their values (42_fifo_refill.md R210, R211). That the return joins the file read's step is
the model's reading (log 6). -/
def Obligations.PlayPrimingEnds : Prop :=
  ∀ (s : State) (a : List Byte) (e : DiskError) (more : List FileAnswer), Ready s →
    s.fmt.valid = true →
    let ended (reads : List Event) (code : Byte) (f : Fifo) : State :=
      { s with
        result := code, op := none, fmt := { s.fmt with valid := false }, fifo := f
        hist := s.hist ++ .issue 0x07#8 [] :: (reads ++ [.done (some .play) code])
        env := { s.env with file := more } }
    (s.env.file = .count [] :: more →
      ∃ t : State, exec .play s = .next t ∧
        Runs 2 t (afterTurns 2
          (ended [.fileRead .bufA s.cfg.bufSize (.count [])] 0x01 { s.fifo with lenA := 0 }))) ∧
    (s.env.file = .error e :: more →
      ∃ (t : State) (buf : Memory), exec .play s = .next t ∧
        Runs 2 t (afterTurns 2
          (ended [.fileRead .bufA s.cfg.bufSize (.error e)] (diskErrorCode e)
            { s.fifo with bufA := buf }))) ∧
    (s.env.file = .count a :: .error e :: more → a ≠ [] → a.length ≤ s.cfg.bufSize →
      ∃ (t : State) (bufA bufB : Memory), exec .play s = .next t ∧
        Runs 3 t (afterTurns 3
          (ended
            [.fileRead .bufA s.cfg.bufSize (.count a), .fileRead .bufB s.cfg.bufSize (.error e)]
            (diskErrorCode e) { s.fifo with bufA := bufA, bufB := bufB, lenA := a.length })))

/-- The loop's termination check: with the declared size played the timer is disarmed and PLAY returns
STREAM_END in that step; otherwise nothing changes but CTL's point (42_fifo_refill.md R220, 60_exceptions.md R300). That the
return joins the disarm's step is the model's reading (log 6). -/
def Obligations.PlayEndsAtDeclaredSize : Prop :=
  ∀ (s : State), NoFault s → mover s = some .ctl → s.k = .loopPlayed →
    step s = .next
      (if s.fmt.size.toNat ≤ s.fifo.played.toNat then
        { takeTurn s with
          timerArmed := false, result := 0x01#8, busy := false, op := none, k := .idle
          hist := s.hist ++ [.disarm, .done s.op 0x01#8] }
      else { takeTurn s with k := .loopStatus })

/-- The refill: on `Filling` its target is the buffer not in the active range, read in the same step as
`STATUS`; the file read fills the target from its base and sets its live length; then `STATUS <- Ready`
(42_fifo_refill.md R214, R215, R217). -/
def Obligations.RefillSteps : Prop :=
  ∀ (s : State), NoFault s → mover s = some .ctl →
    (s.k = .loopStatus →
      step s = .next { takeTurn s with
        k := if s.fifo.status = 0b01#2 then .refill s.fifo.act.other else .loopPlayed }) ∧
    (∀ t bytes more, s.k = .refill t → s.env.file = .count bytes :: more →
      bytes.length ≤ s.cfg.bufSize →
      ∃ u : State, step s = .next u ∧
        u = { takeTurn s with
              k := .refillReady
              fifo := (s.fifo.setBuf t (u.fifo.buf t)).setLen t bytes.length
              hist := s.hist ++ [.fileRead t s.cfg.bufSize (.count bytes)]
              env := { (takeTurn s).env with file := more } } ∧
        ∀ j, (u.fifo.buf t).read j =
          if j < bytes.length then bytes[j]? else (s.fifo.buf t).read j) ∧
    (s.k = .refillReady →
      step s = .next
        { takeTurn s with k := .loopPlayed, fifo := { s.fifo with status := 0b00#2 } })

/-- A refill's file error: the read's step leaves `LEN` and `STATUS`, and the next step of CTL disarms the timer
and returns the error, so that EMT has no step (42_fifo_refill.md R216, 60_exceptions.md R300). That the return joins the disarm's
step is the model's reading (log 6). -/
def Obligations.RefillFailureDisarms : Prop :=
  ∀ (s : State), NoFault s → mover s = some .ctl →
    (∀ t e more, s.k = .refill t → s.env.file = .error e :: more →
      ∃ u : State, step s = .next u ∧ u.k = .playFail e ∧
        u.fifo.lenA = s.fifo.lenA ∧ u.fifo.lenB = s.fifo.lenB ∧ u.fifo.status = s.fifo.status) ∧
    (∀ e, s.k = .playFail e →
      ∃ u : State, step s = .next u ∧ hasStep u .emt = false ∧
        u = { takeTurn s with
              timerArmed := false, result := diskErrorCode e, busy := false, op := none, k := .idle
              hist := s.hist ++ [.disarm, .done s.op (diskErrorCode e)] })

/-! ## The tick -/

/-- A tick with the declared size played only acknowledges: no register changes and no frame is sent
(43_emitter.md R242, R258). -/
def Obligations.TickAfterTheEndDoesNothing : Prop :=
  ∀ (s : State), NoFault s → mover s = some .emt → s.fmt.size.toNat ≤ s.fifo.played.toNat →
    step s = .next (takeTurn s)

/-- A tick that plays from the active range: the frame of the bytes at the cursor is sent, the cursor and the
counter advance by the sample's width, and nothing else changes (43_emitter.md R241, R248, 20_memory.md R67). -/
def Obligations.TickPlaysTheActiveRange : Prop :=
  ∀ (s : State), NoFault s → mover s = some .emt → s.fifo.played.toNat < s.fmt.size.toNat →
    (∀ b0 b1, s.fmt.bps = 16#8 → s.fifo.cur + 2 ≤ s.fifo.endp → s.fifo.played.toNat + 2 < 2 ^ 32 →
      (s.fifo.buf s.fifo.act).read s.fifo.cur = some b0 →
      (s.fifo.buf s.fifo.act).read (s.fifo.cur + 1) = some b1 →
      step s = .next
        (frameSent (frameWord s.cfg ((b1 ^^^ 0x80#8) ++ b0))
          { takeTurn s with
            fifo := { s.fifo with cur := s.fifo.cur + 2, played := s.fifo.played + 2#32 } })) ∧
    (∀ b0, s.fmt.bps = 8#8 → s.fifo.cur < s.fifo.endp →
      (s.fifo.buf s.fifo.act).read s.fifo.cur = some b0 →
      step s = .next
        (frameSent (frameWord s.cfg (b0 ++ 0x00#8))
          { takeTurn s with
            fifo := { s.fifo with cur := s.fifo.cur + 1, played := s.fifo.played + 1#32 } }))

/-- A tick on an exhausted range with no refill pending swaps and plays in one step: `ACT`, `END` and `STATUS`
change, and the sample at offset 0 of the other buffer is sent (43_emitter.md R243, R244, R248, 20_memory.md R75). -/
def Obligations.TickSwapsThenPlays : Prop :=
  ∀ (s : State), NoFault s → mover s = some .emt → s.fifo.played.toNat < s.fmt.size.toNat →
    s.fifo.endp ≤ s.fifo.cur → s.fifo.status ≠ 0b01#2 →
    (∀ b0 b1, s.fmt.bps = 16#8 → 2 ≤ s.fifo.len s.fifo.act.other →
      s.fifo.played.toNat + 2 < 2 ^ 32 →
      (s.fifo.buf s.fifo.act.other).read 0 = some b0 →
      (s.fifo.buf s.fifo.act.other).read 1 = some b1 →
      step s = .next
        (frameSent (frameWord s.cfg ((b1 ^^^ 0x80#8) ++ b0))
          { takeTurn s with
            fifo :=
              { s.fifo with
                act := s.fifo.act.other, cur := 2, endp := s.fifo.len s.fifo.act.other
                status := 0b01#2, played := s.fifo.played + 2#32 } })) ∧
    (∀ b0, s.fmt.bps = 8#8 → 0 < s.fifo.len s.fifo.act.other →
      (s.fifo.buf s.fifo.act.other).read 0 = some b0 →
      step s = .next
        (frameSent (frameWord s.cfg (b0 ++ 0x00#8))
          { takeTurn s with
            fifo :=
              { s.fifo with
                act := s.fifo.act.other, cur := 1, endp := s.fifo.len s.fifo.act.other
                status := 0b01#2, played := s.fifo.played + 1#32 } }))

/-- Exhaustion while a refill is pending: `Fault(UNDERRUN)` in mode `Fault`, with nothing else written; in mode
`Hold` EMT has no step (43_emitter.md R245, 70_reset_and_hazards.md R328). -/
def Obligations.TickUnderrun : Prop :=
  ∀ (s : State), NoFault s → s.fifo.played.toNat < s.fmt.size.toNat →
    s.fifo.endp ≤ s.fifo.cur → s.fifo.status = 0b01#2 →
    (s.cfg.underrunMode = .fault → mover s = some .emt →
      step s = .next { takeTurn s with fault := [.underrun] }) ∧
    (s.cfg.underrunMode = .hold → hasStep s .emt = false)

/-- A swap onto a buffer with `LEN = 0` raises `Fault(EMPTY_RANGE)` and writes nothing else (43_emitter.md R246). -/
def Obligations.TickEmptyRangeFaults : Prop :=
  ∀ (s : State), NoFault s → mover s = some .emt → s.fifo.played.toNat < s.fmt.size.toNat →
    s.fifo.endp ≤ s.fifo.cur → s.fifo.status ≠ 0b01#2 → s.fifo.len s.fifo.act.other = 0 →
    step s = .next { takeTurn s with fault := [.emptyRange] }

/-- In 16-bit format one byte left in the active range, or in the range just swapped in, raises
`Fault(SPLIT_SAMPLE)` and writes nothing else (43_emitter.md R247, 20_memory.md R69). -/
def Obligations.TickSplitSampleFaults : Prop :=
  ∀ (s : State), NoFault s → mover s = some .emt → s.fifo.played.toNat < s.fmt.size.toNat →
    s.fmt.bps = 16#8 →
    s.fifo.endp = s.fifo.cur + 1 ∨
      (s.fifo.endp ≤ s.fifo.cur ∧ s.fifo.status ≠ 0b01#2 ∧ s.fifo.len s.fifo.act.other = 1) →
    step s = .next { takeTurn s with fault := [.splitSample] }

/-- A tick whose addition would reach 2^32 raises `Fault(PLAYED_WRAP)` and writes nothing else: in 16-bit format,
the counter at 0xFFFFFFFE below the size 0xFFFFFFFF, with a sample in the active range, or in the range a swap
would make active, where no swap is committed (43_emitter.md R241, R250). -/
def Obligations.TickCounterWrapFaults : Prop :=
  ∀ (s : State), NoFault s → mover s = some .emt → s.fmt.bps = 16#8 →
    s.fmt.size = 0xFFFFFFFF#32 → s.fifo.played = 0xFFFFFFFE#32 →
    s.fifo.cur + 2 ≤ s.fifo.endp ∨
      (s.fifo.endp ≤ s.fifo.cur ∧ s.fifo.status ≠ 0b01#2 ∧ 2 ≤ s.fifo.len s.fifo.act.other) →
    step s = .next { takeTurn s with fault := [.playedWrap] }

/-- In a playback, a tick with data left to play always has a next state: it faults, or adds the sample's width
to `PLAYED`; no byte it reads is unwritten (42_fifo_refill.md R225, 10_state.md R26). -/
def Obligations.EveryTickFaultsOrAdvances : Prop :=
  ∀ (s : State), NoFault s → StreamInv s → mover s = some .emt →
    s.fifo.played.toNat < s.fmt.size.toNat →
    ∃ t : State, step s = .next t ∧
      (t.fault ≠ [] ∨
        t.fifo.played.toNat = s.fifo.played.toNat + (if s.fmt.bps = 16#8 then 2 else 1))

/-! ## READP -/

/-- READP's first step, before any bus action: READ_BEFORE_INIT with `CT = 0`, then READ_RANGE past 512, else the
CMD17 frame at the scaled address is called (41_block_read.md R170, R171, R173, 60_exceptions.md R300). That the checks are a step of
their own is the model's reading (log 6), and the operand bytes in Issue are the model's layout (log 7). -/
def Obligations.ReadpChecksThenCalls : Prop :=
  ∀ (s : State) (sector dest : Word) (offset count : BitVec 10) (destEn : Bool), Ready s →
    ∃ t : State, exec (.readp sector offset count destEn dest) s = .next t ∧
      t.latch = { s.latch with
        sector := sector, offset := offset, count := count, destEn := destEn, dest := dest } ∧
      t.hist = s.hist ++ [.issue 0x02#8 (encode (.readp sector offset count destEn dest)).tail] ∧
      step t = .next (afterTurns 1
        (if s.ct = 0x0#4 then { t with fault := [.readBeforeInit] }
        else if 512 < offset.toNat + count.toNat then { t with fault := [.readRange] }
        else
          let addr : Word := if s.ct.getLsbD 3 then sector else BitVec.ofNat 32 (sector.toNat * 512)
          { t with
            k := .send [0x51, addr.extractLsb' 24 8, addr.extractLsb' 16 8, addr.extractLsb' 8 8,
              addr.extractLsb' 0 8, s.cfg.crcPlaceholder] .readBlock }))

/-- After the token READP makes exactly 514 receives. Receive `offset + j` goes to `A_DEST + j` for every `j`
below the count when a destination is present; every other byte of memory keeps its value, and READP ends with
OK (41_block_read.md R175, R177). -/
def Obligations.PayloadMakes514Receives : Prop :=
  ∀ (s : State), CtlAlone s → s.k = .payload 0 →
    s.latch.offset.toNat + s.latch.count.toNat ≤ 512 →
    (s.latch.destEn = true → ∀ j, j < s.latch.count.toNat →
      destOk s.cfg ((s.latch.dest + BitVec.ofNat 32 j).toNat) = true) →
    ∃ (u : State) (bs : List Byte), Runs 514 s (afterTurns 514 u) ∧ bs.length = 514 ∧
      u = { s with
            k := .releaseDesel (.readp 0x00#8), mem := u.mem
            hist := s.hist ++ bs.map (Event.busX s.sdCs 0xFF#8)
            env := { s.env with card := s.env.card.drop 514 } } ∧
      (s.latch.destEn = true → ∀ j, j < s.latch.count.toNat →
        u.mem.read ((s.latch.dest + BitVec.ofNat 32 j).toNat) = bs[s.latch.offset.toNat + j]?) ∧
      (∀ a, (s.latch.destEn = false ∨
          ∀ j, j < s.latch.count.toNat → a ≠ (s.latch.dest + BitVec.ofNat 32 j).toNat) →
        u.mem.read a = s.mem.read a)

/-- READP does what its pseudocode makes of the card's answers: the result code, the exact bus transcript, the
bytes at the destination, and nothing else (41_block_read.md R172 to R178, 40_framer_and_init.md R124). -/
def Obligations.ReadpRunsItsPseudocode : Prop :=
  ∀ (s : State) (sector dest : Word) (offset count : BitVec 10) (destEn : Bool) (r code : Byte)
    (afterSend payload rest : List Byte),
    Ready s → s.ct ≠ 0x0#4 → offset.toNat + count.toNat ≤ 512 →
    (destEn = true → ∀ j, j < count.toNat →
      destOk s.cfg ((dest + BitVec.ofNat 32 j).toNat) = true) →
    refSend s.cfg s.env.card = some (r, afterSend) →
    refRead s.cfg s.env.card = some (code, payload, rest) →
    let received := afterSend.length - rest.length - 1
    ∃ (t : State) (n : Nat) (u : State), exec (.readp sector offset count destEn dest) s = .next t ∧ Runs n t (afterTurns n u) ∧
      u = { s with
            sdCs := .deasserted, op := none, result := code, latch := t.latch, mem := u.mem
            hist := t.hist ++
              (sendEvents (frameCmd17 s.cfg (scaledAddress s.ct sector)) (used s.env.card afterSend) ++
                (receiveEvents (afterSend.take received) ++
                  [.csDeassert, .busX .deasserted 0xFF#8 ((afterSend.drop received).headD 0#8),
                    .done (some .readp) code]))
            env := { s.env with card := rest } } ∧
      (code = 0x00#8 → destEn = true → ∀ j, j < count.toNat →
        u.mem.read ((dest + BitVec.ofNat 32 j).toNat) = payload[offset.toNat + j]?) ∧
      (∀ a, (code ≠ 0x00#8 ∨ destEn = false ∨
          ∀ j, j < count.toNat → a ≠ (dest + BitVec.ofNat 32 j).toNat) →
        u.mem.read a = s.mem.read a)

/-- READP always ends, within the bound of its budgets, whatever the card answers and whatever the schedule
names (41_block_read.md R176, 60_exceptions.md R292, 70_reset_and_hazards.md R337). -/
def Obligations.ReadpAlwaysEnds : Prop :=
  ∀ (s : State) (sector dest : Word) (offset count : BitVec 10) (destEn : Bool),
    Ready s → s.ct ≠ 0x0#4 → offset.toNat + count.toNat ≤ 512 →
    (destEn = true → ∀ j, j < count.toNat →
      destOk s.cfg ((dest + BitVec.ofNat 32 j).toNat) = true) →
    ∃ (t : State) (n : Nat) (u : State), exec (.readp sector offset count destEn dest) s = .next t ∧ n ≤ readpBound s.cfg ∧
      Runs n t u ∧ NoFault u ∧ Idle u ∧ u.sdCs = .deasserted ∧
      u.result ∈ [0x00#8, 0x11#8, 0x12#8, 0x13#8, 0x14#8]

/-- At a destination byte where `DestOK` is false CTL has no step, and with no other agent at work the machine
stops there (20_memory.md R62, 60_exceptions.md R291). -/
def Obligations.ForbiddenDestinationStops : Prop :=
  ∀ (s : State) (i : Nat), CtlAlone s → s.k = .payload i →
    s.latch.destEn = true → s.latch.offset.toNat ≤ i →
    i < s.latch.offset.toNat + s.latch.count.toNat →
    destOk s.cfg ((s.latch.dest + BitVec.ofNat 32 (i - s.latch.offset.toNat)).toNat) = false →
    hasStep s .ctl = false ∧ step s = .fault .destStuck

/-- Destination memory changes only at a receive READP copies, and only at that receive's address, where the
byte received is written (20_memory.md R62, 41_block_read.md R175, 70_reset_and_hazards.md R323). -/
def Obligations.OnlyCopiesWriteMemory : Prop :=
  ∀ (s t : State), step s = .next t →
    ∀ a, t.mem.read a = s.mem.read a ∨
      ∃ i b, s.k = .payload i ∧ copiesByte s.latch i ∧ a = copyAddress s.latch i ∧
        t.mem.read a = some b ∧ t.hist = s.hist ++ [.busX s.sdCs 0xFF#8 b]

/-! ## INIT -/

/-- INIT's power-up: deselect, `N_PWRUP_BYTES` exchanges of 0xFF with the card deselected, then CMD0 is called,
in the last exchange's step (log 6; 40_framer_and_init.md R131, 70_reset_and_hazards.md R333). -/
def Obligations.InitClocksTheDeselectedCard : Prop :=
  ∀ (s : State), Ready s →
    ∃ (t u : State) (bs : List Byte), exec .init s = .next t ∧
      Runs (s.cfg.nPwrupBytes + 1) t (afterTurns (s.cfg.nPwrupBytes + 1) u) ∧
      bs.length = s.cfg.nPwrupBytes ∧
      u = { t with
            sdCs := .deasserted, k := .send [0x40, 0, 0, 0, 0, 0x95] .goIdle
            hist := t.hist ++ .csDeassert :: bs.map (Event.busX .deasserted 0xFF#8)
            env := { s.env with card := s.env.card.drop s.cfg.nPwrupBytes } }

/-- INIT does what its pseudocode makes of the card's answers: `CT`, the result code, the exact bus transcript
(every chip-select action, and every exchange with the byte sent, the byte answered and the line's level, in
order), the card deselected, and nothing else; one exchange per answer used (40_framer_and_init.md R121 to R124, R130 to
R145, 30_encoding.md R90). -/
def Obligations.InitRunsItsPseudocode : Prop :=
  ∀ (s : State) (ty : BitVec 4) (events : List Event) (rest : List Byte), Ready s →
    refInit s.cfg s.env.card = some (ty, events, rest) →
    let code : Byte := if ty = 0x0#4 then 0x10#8 else 0x00#8
    (∃ (t : State) (n : Nat), exec .init s = .next t ∧
      Runs n t (afterTurns n
        { s with
          ct := ty, sdCs := .deasserted, op := none, result := code
          hist := s.hist ++ .issue 0x01#8 [] :: (events ++ [.done (some .init) code])
          env := { s.env with card := rest } })) ∧
    events.countP isExchange = s.env.card.length - rest.length

/-- INIT always ends, within the bound of its budgets, whatever the card answers and whatever the schedule names:
OK with a classification, or DISK_NOT_INIT with none, and the card deselected (40_framer_and_init.md R130, R143,
60_exceptions.md R292, 70_reset_and_hazards.md R337). -/
def Obligations.InitAlwaysEnds : Prop :=
  ∀ (s : State), Ready s →
    ∃ (t : State) (n : Nat) (u : State), exec .init s = .next t ∧ n ≤ initBound s.cfg ∧ Runs n t u ∧
      NoFault u ∧ Idle u ∧ u.sdCs = .deasserted ∧
      ((u.result = 0x00#8 ∧ CardUp u) ∨ (u.result = 0x10#8 ∧ u.ct = 0x0#4))

/-- `CT` is written in one place, INIT's last step: with the classification INIT has reached, in the step of the
release's dummy receive that also ends INIT with the result the classification gives. Until then `CT` keeps the
previous value (10_state.md R20, 40_framer_and_init.md R143, 90_conflicts.md C8). That the return joins the receive's step
is the model's reading (log 6). -/
def Obligations.OnlyInitEndWritesCardType : Prop :=
  ∀ (s t : State), step s = .next t → t.ct ≠ s.ct →
    ∃ ty answer, s.k = .releaseDummy (.init ty) ∧ t.ct = ty ∧ t.k = .idle ∧ t.busy = false ∧
      t.result = (if ty = 0x0#4 then 0x10#8 else 0x00#8) ∧
      t.hist = s.hist ++ [.busX s.sdCs 0xFF#8 answer, .done s.op t.result]

/-! ## Rules over the whole machine -/

/-- `RESULT` is written, and `BUSY` cleared, only in the last step of an operation, which records Done with that
result (10_state.md R22, R24, 60_exceptions.md R300). -/
def Obligations.OnlyDoneWritesResult : Prop :=
  ∀ (s t : State), step s = .next t →
    (t.result = s.result ∧ (s.busy = true → t.busy = true)) ∨
    (t.busy = false ∧ t.op = none ∧ t.k = .idle ∧
      ∃ before, t.hist = before ++ [.done s.op t.result])

/-- No step of EMT or HOST, and no step while an operation other than INIT and READP is in progress, touches the
SD bus or `CT` (43_emitter.md R256, R257, 42_fifo_refill.md R222, 70_reset_and_hazards.md R331). -/
def Obligations.OnlyInitAndReadpTouchTheCard : Prop :=
  ∀ (s t : State), OperationInv s → step s = .next t →
    mover s ≠ some .ctl ∨ (s.op ≠ some .init ∧ s.op ≠ some .readp) →
    t.sdCs = s.sdCs ∧ t.ct = s.ct ∧ t.env.card = s.env.card ∧
      ∃ events, t.hist = s.hist ++ events ∧ events.all (fun e => !isSdEvent e) = true

/-- What a tick may write while a playback runs: `ACT`, `CUR`, `END`, `PLAYED`, the DAC lines, and `STATUS` from
Ready to Filling only (10_state.md R39, R30). -/
def Obligations.TickWritesOnlyItsRegisters : Prop :=
  ∀ (s t : State), StreamInv s → mover s = some .emt → step s = .next t →
    t.k = s.k ∧ t.busy = s.busy ∧ t.op = s.op ∧ t.result = s.result ∧ t.latch = s.latch ∧
    t.ct = s.ct ∧ t.sdCs = s.sdCs ∧ t.mem = s.mem ∧ t.fmt = s.fmt ∧ t.timerArmed = s.timerArmed ∧
    t.fifo.bufA = s.fifo.bufA ∧ t.fifo.bufB = s.fifo.bufB ∧
    t.fifo.lenA = s.fifo.lenA ∧ t.fifo.lenB = s.fifo.lenB ∧
    (t.fifo.status = s.fifo.status ∨ (s.fifo.status = 0b00#2 ∧ t.fifo.status = 0b01#2))

/-- What CTL may write while the timer is armed: never the active buffer or its length, `ACT`, `CUR`, `END`,
`PLAYED` or the format; the other buffer only in a refill, with `STATUS = Filling`; `STATUS` from Filling to
Ready only (10_state.md R39, R38 item 2, 20_memory.md R75). -/
def Obligations.CtlLeavesTheActiveBuffer : Prop :=
  ∀ (s t : State), StreamInv s → s.timerArmed = true → mover s = some .ctl → step s = .next t →
    t.fifo.act = s.fifo.act ∧ t.fifo.cur = s.fifo.cur ∧ t.fifo.endp = s.fifo.endp ∧
    t.fifo.played = s.fifo.played ∧ t.fmt = s.fmt ∧ t.dac = s.dac ∧
    t.fifo.buf s.fifo.act = s.fifo.buf s.fifo.act ∧ t.fifo.len s.fifo.act = s.fifo.len s.fifo.act ∧
    (t.fifo.buf s.fifo.act.other = s.fifo.buf s.fifo.act.other ∧
        t.fifo.len s.fifo.act.other = s.fifo.len s.fifo.act.other ∨
      s.k = .refill s.fifo.act.other ∧ s.fifo.status = 0b01#2) ∧
    (t.fifo.status = s.fifo.status ∨ (s.fifo.status = 0b01#2 ∧ t.fifo.status = 0b00#2))

/-! ## Invariants every step keeps -/

/-- The memories keep their canonical form (20_memory.md R62, R65; the form is the model's, log 10, log 11). -/
def Obligations.EveryStepKeepsMemoryForm : Prop :=
  ∀ (s t : State), MemoryInv s → step s = .next t → MemoryInv t

/-- `CT` keeps a legal value, and so does the classification INIT carries towards it (10_state.md R20, R38 item 1). -/
def Obligations.EveryStepKeepsCardTypeLegal : Prop :=
  ∀ (s t : State), CardTypeInv s → step s = .next t → CardTypeInv t

/-- `BUSY`, `OP` and CTL's point keep agreeing (10_state.md R22, R23, 40_framer_and_init.md R120). -/
def Obligations.EveryStepKeepsOneOperation : Prop :=
  ∀ (s t : State), OperationInv s → step s = .next t → OperationInv t

/-- The card stays deselected wherever the framer is not at work, between operations above all
(40_framer_and_init.md R125, R124). -/
def Obligations.EveryStepKeepsTheBusReleased : Prop :=
  ∀ (s t : State), BusInv s → step s = .next t → BusInv t

/-- The timer stays armed in PLAY's loop and nowhere else (10_state.md R33, 60_exceptions.md R302). -/
def Obligations.EveryStepKeepsTheTimerInPlay : Prop :=
  ∀ (s t : State), TimerInv s → step s = .next t → TimerInv t

/-- The playback invariant: `CUR <= END <= BUF_SIZE`, `END = LEN[ACT]` and `PLAYED` within its bound while the
timer is armed, `STATUS` Ready or Filling, live bytes written, and a refill aimed at the other buffer
(10_state.md R38 items 3 to 5, 42_fifo_refill.md R215, 43_emitter.md R242). -/
def Obligations.EveryStepKeepsThePlayback : Prop :=
  ∀ (s t : State), StreamInv s → step s = .next t → StreamInv t

/-- Every invariant holds after reset, and the parameters reset holds (the model's choice, log 1) meet their
constraints (70_reset_and_hazards.md R320, R326, 00_scope.md R7). -/
def Obligations.ResetMeetsEveryInvariant : Prop :=
  MemoryInv State.reset ∧ CardTypeInv State.reset ∧ BusInv State.reset ∧ StreamInv State.reset ∧
  FrameInv State.reset ∧ State.reset.cfg.wf

/-- The registers after reset, row by row of 70_reset_and_hazards.md R320; the row of `DAC_SDI` gives no value. -/
def Obligations.ResetValues : Prop :=
  let s := State.reset
  s.ct = 0x0#4 ∧ s.sdCs = .deasserted ∧ s.busy = false ∧ s.op = none ∧ s.k = .idle ∧
  s.result = 0xFF#8 ∧
  s.latch = { sector := 0, offset := 0, count := 0, destEn := false, dest := 0, bps := 0, rate := 0, size := 0 } ∧
  (∀ a, s.fifo.bufA.read a = none) ∧ (∀ a, s.fifo.bufB.read a = none) ∧
  s.fifo.lenA = 0 ∧ s.fifo.lenB = 0 ∧ s.fifo.act = .bufA ∧ s.fifo.cur = 0 ∧ s.fifo.endp = 0 ∧
  s.fifo.status = 0b00#2 ∧ s.fifo.played = 0#32 ∧
  s.fmt = { bps := 0, rate := 0, size := 0, valid := false } ∧ s.timerArmed = false ∧
  s.dac.cs = .deasserted ∧ s.dac.sck = false ∧ s.fault = [] ∧ s.refused = none ∧ s.hist = []

/-- A playback ends when CTL and EMT move in turn: PLAY returns STREAM_END or an error with the timer disarmed, or
a fault is raised, whatever FILE answers (42_fifo_refill.md R225, 70_reset_and_hazards.md R336, R337). -/
def Obligations.PlayEndsWhenBothContextsMove : Prop :=
  ∀ (s : State), NoFault s → StreamInv s → inPlayLoop s.k = true →
    ∃ (m n : Nat) (u : State), Runs n { s with env := { s.env with sched := alternating m } } u ∧
      (u.fault ≠ [] ∨
        (Idle u ∧ u.op = none ∧ (u.result = 0x01#8 ∨ ∃ e, u.result = diskErrorCode e)))
end

