-- ==== Sys2Proof/Laws/Memory.lean ====
section
/-! SUPPORT. Memory: read after write, and the canonical form under every operation. -/

namespace Sys2Proof.Machine

@[simp] theorem Memory.read_nil (x : Nat) : Memory.read [] x = none := rfl

theorem Memory.read_cons (a : Nat) (b : Byte) (m : Memory) (x : Nat) :
    Memory.read ((a, b) :: m) x = if a = x then some b else Memory.read m x := rfl

/-- A read after a write: the byte written there, every other address as before. -/
theorem Memory.read_write (m : Memory) (x y : Nat) (v : Byte) :
    (m.write x v).read y = if x = y then some v else m.read y := by
  induction m with
  | nil => simp [Memory.write, Memory.read_cons]
  | cons c m ih =>
    obtain ⟨a, b⟩ := c
    unfold Memory.write
    split
    · simp [Memory.read_cons]
    · split
      · subst_vars; simp only [Memory.read_cons]; split <;> rfl
      · simp only [Memory.read_cons, ih]; split <;> split <;> simp_all

/-- The bytes written from `x` on lie there in order; every other address reads as before. -/
theorem Memory.read_writeFrom (m : Memory) (x y : Nat) (bs : List Byte) :
    (m.writeFrom x bs).read y =
      if x ≤ y ∧ y < x + bs.length then bs[y - x]? else m.read y := by
  induction bs generalizing m x with
  | nil =>
    have h : ¬(x ≤ y ∧ y < x + 0) := by omega
    simp only [Memory.writeFrom, List.length_nil, if_neg h]
  | cons b bs ih =>
    simp only [Memory.writeFrom, ih, Memory.read_write, List.length_cons]
    by_cases hxy : x = y
    · subst hxy; simp
    · by_cases h : x + 1 ≤ y ∧ y < x + 1 + bs.length
      · have e : y - x = (y - (x + 1)) + 1 := by omega
        rw [if_pos h, if_pos (by omega), e, List.getElem?_cons_succ]
      · rw [if_neg h, if_neg hxy, if_neg (by omega)]

/-- Every address of a memory after a write is the address written or was listed before. -/
theorem Memory.mem_write {m : Memory} {x : Nat} {v : Byte} {c : Host.Cell}
    (h : c ∈ m.write x v) : c.1 = x ∨ c ∈ m := by
  induction m with
  | nil => simp only [Memory.write, List.mem_singleton] at h; simp [h]
  | cons d m ih =>
    obtain ⟨a, b⟩ := d
    unfold Memory.write at h
    split at h
    · rcases List.mem_cons.1 h with h | h
      · exact .inl (by rw [h])
      · exact .inr h
    · split at h
      · rcases List.mem_cons.1 h with h | h
        · exact .inl (by rw [h])
        · exact .inr (List.mem_cons_of_mem _ h)
      · rcases List.mem_cons.1 h with h | h
        · exact .inr (h ▸ List.mem_cons_self)
        · exact (ih h).imp_right (List.mem_cons_of_mem _)

theorem Memory.wf_nil : Memory.wf [] := List.Pairwise.nil

/-- A write keeps the canonical form. -/
theorem Memory.wf_write {m : Memory} (x : Nat) (v : Byte) (h : m.wf) : (m.write x v).wf := by
  induction m with
  | nil => exact List.pairwise_singleton _ _
  | cons d m ih =>
    obtain ⟨a, b⟩ := d
    have hd := List.pairwise_cons.1 h
    unfold Memory.write
    split
    next hlt =>
      refine List.pairwise_cons.2 ⟨fun c hc => ?_, h⟩
      rcases List.mem_cons.1 hc with hc | hc
      · rw [hc]; exact hlt
      · exact Nat.lt_trans hlt (hd.1 c hc)
    next hlt =>
      split
      next he => subst he; exact List.pairwise_cons.2 ⟨hd.1, hd.2⟩
      next hne =>
        refine List.pairwise_cons.2 ⟨fun c hc => ?_, ih hd.2⟩
        rcases Memory.mem_write hc with hc | hc
        · simp only [hc]; omega
        · exact hd.1 c hc

/-- Writing several bytes keeps the canonical form. -/
theorem Memory.wf_writeFrom {m : Memory} (x : Nat) (bs : List Byte) (h : m.wf) :
    (m.writeFrom x bs).wf := by
  induction bs generalizing m x with
  | nil => exact h
  | cons b bs ih => exact ih _ (Memory.wf_write x b h)

/-- A file-read answer leaves a buffer in the canonical form. -/
theorem Memory.wf_fillBuffer {m : Memory} (ans : FileAnswer) (h : m.wf) : (fillBuffer m ans).wf := by
  cases ans with
  | count bytes => exact Memory.wf_writeFrom 0 bytes h
  | error e => exact Memory.wf_nil

end Sys2Proof.Machine
end

