-- ==== Sys2Proof/Laws/Ops.lean ====
section
/-! SUPPORT. What each shared operation can do, said once: beginning a frame, issuing an operation, the file-read
answer, the DAC sequence, and the shape of `exec` on each port. -/

namespace Sys2Proof.Machine

/-- A frame begins only at a call of SendCmd, and then it deselects and keeps its bytes and its caller. -/
theorem beginFrame_next {frame : List Byte} {s t : State} (h : beginFrame frame s = .next t) :
    ∃ called ret, s.k = .send called ret ∧ t = goto (.dummy1 frame ret) (csDeassert s) := by
  unfold beginFrame at h
  split at h
  next called ret hk => exact ⟨called, ret, hk, by injection h with h; exact h.symm⟩
  next => cases h

/-- At a call of SendCmd a frame begins. -/
theorem beginFrame_of_send {s : State} {called : List Byte} {ret : Ret} (frame : List Byte)
    (hk : s.k = .send called ret) :
    beginFrame frame s = .next (goto (.dummy1 frame ret) (csDeassert s)) := by
  simp only [beginFrame, hk]

/-- An issue that answers a next state found the state neither stopped nor busy. -/
theorem issue_next {i : Instr} {op : HostOp} {l : Latches} {s t : State}
    (h : issue i op l s = .next t) :
    s.fault = [] ∧ s.refused = none ∧ s.busy = false ∧
      t = { s with
            latch := l, busy := true, op := some op, k := .start op,
            hist := s.hist ++ [.issue (hostOpCode op) (encode i).tail] } := by
  unfold issue at h
  split at h
  · cases h
  next hf =>
    split at h
    · cases h
    next hr =>
      split at h
      · cases h
      next hb =>
        injection h with h
        exact ⟨not_not.1 hf, not_not.1 hr, Bool.eq_false_iff.2 hb, h.symm⟩

/-- A state neither stopped nor busy takes an issue. -/
theorem issue_of_ready {s : State} (i : Instr) (op : HostOp) (l : Latches)
    (hf : s.fault = []) (hr : s.refused = none) (hb : s.busy = false) :
    issue i op l s = .next
      { s with
        latch := l, busy := true, op := some op, k := .start op,
        hist := s.hist ++ [.issue (hostOpCode op) (encode i).tail] } := by
  simp [issue, hf, hr, hb]

/-- On the framer's port, `exec` begins the instruction's own bytes. -/
theorem exec_of_sdcmd48 {i : Instr} (s : State) (h : i.port = .sdcmd48) :
    exec i s = beginFrame (encode i) s := by
  cases i <;> first | rfl | cases h

/-- On HOST's port, `exec` issues an operation with some latches. -/
theorem exec_of_hostop {i : Instr} (s : State) (h : i.port = .hostop) :
    ∃ op l, exec i s = issue i op l s := by
  cases i <;> first | exact ⟨_, _, rfl⟩ | cases h

/-- On the emitter's port, `exec` emits. -/
theorem exec_of_dac16 {i : Instr} (s : State) (h : i.port = .dac16) :
    ∃ w, exec i s = .next (emit w s) := by
  cases i <;> first | exact ⟨_, rfl⟩ | cases h

/-- INIT's last step, whole: `CT`, the result, the idle block, one exchange and Done. -/
theorem stepInitEnd_eq (ty : BitVec 4) (s : State) :
    stepInitEnd ty s =
      { s with
        ct := ty, busy := false, op := none, k := .idle, result := initResult ty
        hist := s.hist ++
          [.busX s.sdCs filler (cardByte filler s), .done s.op (initResult ty)]
        env := { s.env with card := s.env.card.tail } } := by
  simp [stepInitEnd, stepReleaseDummy, finish, tx, xchg, writeCt, cardByte]

/-- A file-read answer never has more bytes than were requested. -/
theorem fileAnswer_count_le {k : BufId} {n : Nat} {s : State} {bytes : List Byte}
    (h : fileAnswer k n s = .count bytes) : bytes.length ≤ n := by
  unfold fileAnswer clipAnswer at h
  split at h
  · injection h with h; rw [← h]; simp [List.length_take]
  · cases h

end Sys2Proof.Machine
end

