-- ==== Sys2Proof/Laws/PerInstr.lean ====
section
/-! SUPPORT. A statement about every instruction as syntax, one lemma per constructor. -/

namespace Sys2Proof.Laws.WordShape

/-- The shape of an instruction's word: a command frame is 6 bytes and starts with bits 01 (30_encoding.md R80, R81); a DAC
frame is 2 bytes (R96); a host operation is its code and as many operand bytes as the code has (R100, log 7). -/
def Statement (i : Instr) : Prop :=
  match i.port with
  | .sdcmd48 => (encode i).length = 6 ∧ ((encode i).headD 0#8).extractLsb' 6 2 = 0b01#2
  | .dac16 => (encode i).length = 2
  | .hostop => (encode i).length = 1 + operandBytes ((encode i).headD 0#8)

/-- A start byte has bit 7 clear and bit 6 set (R81). -/
theorem startByte_top (idx : BitVec 6) : (startByte idx).extractLsb' 6 2 = 0b01#2 := by
  revert idx; decide

theorem cmd0 : Statement .cmd0 := ⟨rfl, startByte_top 0⟩

theorem cmd1 (crc : Byte) : Statement (.cmd1 crc) := ⟨rfl, startByte_top 1⟩

theorem cmd8 : Statement .cmd8 := ⟨rfl, startByte_top 8⟩

theorem cmd16 (crc : Byte) : Statement (.cmd16 crc) := ⟨rfl, startByte_top 16⟩

theorem cmd17 (addr : Word) (crc : Byte) : Statement (.cmd17 addr crc) := ⟨rfl, startByte_top 17⟩

theorem cmd55 (crc : Byte) : Statement (.cmd55 crc) := ⟨rfl, startByte_top 55⟩

theorem acmd41Hcs (crc : Byte) : Statement (.acmd41Hcs crc) := ⟨rfl, startByte_top 41⟩

theorem acmd41Zero (crc : Byte) : Statement (.acmd41Zero crc) := ⟨rfl, startByte_top 41⟩

theorem cmd58 (crc : Byte) : Statement (.cmd58 crc) := ⟨rfl, startByte_top 58⟩

theorem dacWrite (ctrl : BitVec 4) (data : BitVec 12) : Statement (.dacWrite ctrl data) := rfl

theorem init : Statement .init := rfl

theorem readp (sector : Word) (offset count : BitVec 10) (destEn : Bool) (dest : Word) :
    Statement (.readp sector offset count destEn dest) := rfl

theorem writepInit (n : Word) : Statement (.writepInit n) := rfl

theorem writepAppend (src len : Word) : Statement (.writepAppend src len) := rfl

theorem writepFinal : Statement .writepFinal := rfl

theorem loadfmt (bps : Byte) (rate size : Word) : Statement (.loadfmt bps rate size) := rfl

theorem play : Statement .play := rfl

end Sys2Proof.Laws.WordShape
end

