-- ==== Sys2Proof/Laws/State.lean ====
section
/-! SUPPORT. One lemma per field per named update of the state, so that no proof unfolds a record update. -/

namespace Sys2Proof.Machine

@[simp] theorem record_cfg (e : Event) (s : State) : (record e s).cfg = s.cfg := rfl
@[simp] theorem record_ct (e : Event) (s : State) : (record e s).ct = s.ct := rfl
@[simp] theorem record_sdCs (e : Event) (s : State) : (record e s).sdCs = s.sdCs := rfl
@[simp] theorem record_busy (e : Event) (s : State) : (record e s).busy = s.busy := rfl
@[simp] theorem record_op (e : Event) (s : State) : (record e s).op = s.op := rfl
@[simp] theorem record_k (e : Event) (s : State) : (record e s).k = s.k := rfl
@[simp] theorem record_result (e : Event) (s : State) : (record e s).result = s.result := rfl
@[simp] theorem record_latch (e : Event) (s : State) : (record e s).latch = s.latch := rfl
@[simp] theorem record_fifo (e : Event) (s : State) : (record e s).fifo = s.fifo := rfl
@[simp] theorem record_fmt (e : Event) (s : State) : (record e s).fmt = s.fmt := rfl
@[simp] theorem record_timerArmed (e : Event) (s : State) : (record e s).timerArmed = s.timerArmed := rfl
@[simp] theorem record_dac (e : Event) (s : State) : (record e s).dac = s.dac := rfl
@[simp] theorem record_mem (e : Event) (s : State) : (record e s).mem = s.mem := rfl
@[simp] theorem record_fault (e : Event) (s : State) : (record e s).fault = s.fault := rfl
@[simp] theorem record_refused (e : Event) (s : State) : (record e s).refused = s.refused := rfl
@[simp] theorem record_hist (e : Event) (s : State) : (record e s).hist = s.hist ++ [e] := rfl
@[simp] theorem record_env (e : Event) (s : State) : (record e s).env = s.env := rfl

@[simp] theorem goto_cfg (k : Kont) (s : State) : (goto k s).cfg = s.cfg := rfl
@[simp] theorem goto_ct (k : Kont) (s : State) : (goto k s).ct = s.ct := rfl
@[simp] theorem goto_sdCs (k : Kont) (s : State) : (goto k s).sdCs = s.sdCs := rfl
@[simp] theorem goto_busy (k : Kont) (s : State) : (goto k s).busy = s.busy := rfl
@[simp] theorem goto_op (k : Kont) (s : State) : (goto k s).op = s.op := rfl
@[simp] theorem goto_k (k : Kont) (s : State) : (goto k s).k = k := rfl
@[simp] theorem goto_result (k : Kont) (s : State) : (goto k s).result = s.result := rfl
@[simp] theorem goto_latch (k : Kont) (s : State) : (goto k s).latch = s.latch := rfl
@[simp] theorem goto_fifo (k : Kont) (s : State) : (goto k s).fifo = s.fifo := rfl
@[simp] theorem goto_fmt (k : Kont) (s : State) : (goto k s).fmt = s.fmt := rfl
@[simp] theorem goto_timerArmed (k : Kont) (s : State) : (goto k s).timerArmed = s.timerArmed := rfl
@[simp] theorem goto_dac (k : Kont) (s : State) : (goto k s).dac = s.dac := rfl
@[simp] theorem goto_mem (k : Kont) (s : State) : (goto k s).mem = s.mem := rfl
@[simp] theorem goto_fault (k : Kont) (s : State) : (goto k s).fault = s.fault := rfl
@[simp] theorem goto_refused (k : Kont) (s : State) : (goto k s).refused = s.refused := rfl
@[simp] theorem goto_hist (k : Kont) (s : State) : (goto k s).hist = s.hist := rfl
@[simp] theorem goto_env (k : Kont) (s : State) : (goto k s).env = s.env := rfl

@[simp] theorem raise_cfg (f : FaultKind) (s : State) : (raise f s).cfg = s.cfg := rfl
@[simp] theorem raise_ct (f : FaultKind) (s : State) : (raise f s).ct = s.ct := rfl
@[simp] theorem raise_sdCs (f : FaultKind) (s : State) : (raise f s).sdCs = s.sdCs := rfl
@[simp] theorem raise_busy (f : FaultKind) (s : State) : (raise f s).busy = s.busy := rfl
@[simp] theorem raise_op (f : FaultKind) (s : State) : (raise f s).op = s.op := rfl
@[simp] theorem raise_k (f : FaultKind) (s : State) : (raise f s).k = s.k := rfl
@[simp] theorem raise_result (f : FaultKind) (s : State) : (raise f s).result = s.result := rfl
@[simp] theorem raise_latch (f : FaultKind) (s : State) : (raise f s).latch = s.latch := rfl
@[simp] theorem raise_fifo (f : FaultKind) (s : State) : (raise f s).fifo = s.fifo := rfl
@[simp] theorem raise_fmt (f : FaultKind) (s : State) : (raise f s).fmt = s.fmt := rfl
@[simp] theorem raise_timerArmed (f : FaultKind) (s : State) : (raise f s).timerArmed = s.timerArmed := rfl
@[simp] theorem raise_dac (f : FaultKind) (s : State) : (raise f s).dac = s.dac := rfl
@[simp] theorem raise_mem (f : FaultKind) (s : State) : (raise f s).mem = s.mem := rfl
@[simp] theorem raise_fault (f : FaultKind) (s : State) : (raise f s).fault = if f ∈ s.fault then s.fault else s.fault ++ [f] := rfl
@[simp] theorem raise_refused (f : FaultKind) (s : State) : (raise f s).refused = s.refused := rfl
@[simp] theorem raise_hist (f : FaultKind) (s : State) : (raise f s).hist = s.hist := rfl
@[simp] theorem raise_env (f : FaultKind) (s : State) : (raise f s).env = s.env := rfl

@[simp] theorem refuse_cfg (r : RefuseReason) (s : State) : (refuse r s).cfg = s.cfg := rfl
@[simp] theorem refuse_ct (r : RefuseReason) (s : State) : (refuse r s).ct = s.ct := rfl
@[simp] theorem refuse_sdCs (r : RefuseReason) (s : State) : (refuse r s).sdCs = s.sdCs := rfl
@[simp] theorem refuse_busy (r : RefuseReason) (s : State) : (refuse r s).busy = s.busy := rfl
@[simp] theorem refuse_op (r : RefuseReason) (s : State) : (refuse r s).op = s.op := rfl
@[simp] theorem refuse_k (r : RefuseReason) (s : State) : (refuse r s).k = s.k := rfl
@[simp] theorem refuse_result (r : RefuseReason) (s : State) : (refuse r s).result = s.result := rfl
@[simp] theorem refuse_latch (r : RefuseReason) (s : State) : (refuse r s).latch = s.latch := rfl
@[simp] theorem refuse_fifo (r : RefuseReason) (s : State) : (refuse r s).fifo = s.fifo := rfl
@[simp] theorem refuse_fmt (r : RefuseReason) (s : State) : (refuse r s).fmt = s.fmt := rfl
@[simp] theorem refuse_timerArmed (r : RefuseReason) (s : State) : (refuse r s).timerArmed = s.timerArmed := rfl
@[simp] theorem refuse_dac (r : RefuseReason) (s : State) : (refuse r s).dac = s.dac := rfl
@[simp] theorem refuse_mem (r : RefuseReason) (s : State) : (refuse r s).mem = s.mem := rfl
@[simp] theorem refuse_fault (r : RefuseReason) (s : State) : (refuse r s).fault = s.fault := rfl
@[simp] theorem refuse_refused (r : RefuseReason) (s : State) : (refuse r s).refused = some r := rfl
@[simp] theorem refuse_hist (r : RefuseReason) (s : State) : (refuse r s).hist = s.hist := rfl
@[simp] theorem refuse_env (r : RefuseReason) (s : State) : (refuse r s).env = s.env := rfl

@[simp] theorem finish_cfg (c : Byte) (s : State) : (finish c s).cfg = s.cfg := rfl
@[simp] theorem finish_ct (c : Byte) (s : State) : (finish c s).ct = s.ct := rfl
@[simp] theorem finish_sdCs (c : Byte) (s : State) : (finish c s).sdCs = s.sdCs := rfl
@[simp] theorem finish_busy (c : Byte) (s : State) : (finish c s).busy = false := rfl
@[simp] theorem finish_op (c : Byte) (s : State) : (finish c s).op = none := rfl
@[simp] theorem finish_k (c : Byte) (s : State) : (finish c s).k = .idle := rfl
@[simp] theorem finish_result (c : Byte) (s : State) : (finish c s).result = c := rfl
@[simp] theorem finish_latch (c : Byte) (s : State) : (finish c s).latch = s.latch := rfl
@[simp] theorem finish_fifo (c : Byte) (s : State) : (finish c s).fifo = s.fifo := rfl
@[simp] theorem finish_fmt (c : Byte) (s : State) : (finish c s).fmt = s.fmt := rfl
@[simp] theorem finish_timerArmed (c : Byte) (s : State) : (finish c s).timerArmed = s.timerArmed := rfl
@[simp] theorem finish_dac (c : Byte) (s : State) : (finish c s).dac = s.dac := rfl
@[simp] theorem finish_mem (c : Byte) (s : State) : (finish c s).mem = s.mem := rfl
@[simp] theorem finish_fault (c : Byte) (s : State) : (finish c s).fault = s.fault := rfl
@[simp] theorem finish_refused (c : Byte) (s : State) : (finish c s).refused = s.refused := rfl
@[simp] theorem finish_hist (c : Byte) (s : State) : (finish c s).hist = s.hist ++ [.done s.op c] := rfl
@[simp] theorem finish_env (c : Byte) (s : State) : (finish c s).env = s.env := rfl

@[simp] theorem csAssert_cfg (s : State) : (csAssert s).cfg = s.cfg := rfl
@[simp] theorem csAssert_ct (s : State) : (csAssert s).ct = s.ct := rfl
@[simp] theorem csAssert_sdCs (s : State) : (csAssert s).sdCs = .asserted := rfl
@[simp] theorem csAssert_busy (s : State) : (csAssert s).busy = s.busy := rfl
@[simp] theorem csAssert_op (s : State) : (csAssert s).op = s.op := rfl
@[simp] theorem csAssert_k (s : State) : (csAssert s).k = s.k := rfl
@[simp] theorem csAssert_result (s : State) : (csAssert s).result = s.result := rfl
@[simp] theorem csAssert_latch (s : State) : (csAssert s).latch = s.latch := rfl
@[simp] theorem csAssert_fifo (s : State) : (csAssert s).fifo = s.fifo := rfl
@[simp] theorem csAssert_fmt (s : State) : (csAssert s).fmt = s.fmt := rfl
@[simp] theorem csAssert_timerArmed (s : State) : (csAssert s).timerArmed = s.timerArmed := rfl
@[simp] theorem csAssert_dac (s : State) : (csAssert s).dac = s.dac := rfl
@[simp] theorem csAssert_mem (s : State) : (csAssert s).mem = s.mem := rfl
@[simp] theorem csAssert_fault (s : State) : (csAssert s).fault = s.fault := rfl
@[simp] theorem csAssert_refused (s : State) : (csAssert s).refused = s.refused := rfl
@[simp] theorem csAssert_hist (s : State) : (csAssert s).hist = s.hist ++ [.csAssert] := rfl
@[simp] theorem csAssert_env (s : State) : (csAssert s).env = s.env := rfl

@[simp] theorem csDeassert_cfg (s : State) : (csDeassert s).cfg = s.cfg := rfl
@[simp] theorem csDeassert_ct (s : State) : (csDeassert s).ct = s.ct := rfl
@[simp] theorem csDeassert_sdCs (s : State) : (csDeassert s).sdCs = .deasserted := rfl
@[simp] theorem csDeassert_busy (s : State) : (csDeassert s).busy = s.busy := rfl
@[simp] theorem csDeassert_op (s : State) : (csDeassert s).op = s.op := rfl
@[simp] theorem csDeassert_k (s : State) : (csDeassert s).k = s.k := rfl
@[simp] theorem csDeassert_result (s : State) : (csDeassert s).result = s.result := rfl
@[simp] theorem csDeassert_latch (s : State) : (csDeassert s).latch = s.latch := rfl
@[simp] theorem csDeassert_fifo (s : State) : (csDeassert s).fifo = s.fifo := rfl
@[simp] theorem csDeassert_fmt (s : State) : (csDeassert s).fmt = s.fmt := rfl
@[simp] theorem csDeassert_timerArmed (s : State) : (csDeassert s).timerArmed = s.timerArmed := rfl
@[simp] theorem csDeassert_dac (s : State) : (csDeassert s).dac = s.dac := rfl
@[simp] theorem csDeassert_mem (s : State) : (csDeassert s).mem = s.mem := rfl
@[simp] theorem csDeassert_fault (s : State) : (csDeassert s).fault = s.fault := rfl
@[simp] theorem csDeassert_refused (s : State) : (csDeassert s).refused = s.refused := rfl
@[simp] theorem csDeassert_hist (s : State) : (csDeassert s).hist = s.hist ++ [.csDeassert] := rfl
@[simp] theorem csDeassert_env (s : State) : (csDeassert s).env = s.env := rfl

@[simp] theorem xchg_cfg (o : Byte) (s : State) : (xchg o s).cfg = s.cfg := rfl
@[simp] theorem xchg_ct (o : Byte) (s : State) : (xchg o s).ct = s.ct := rfl
@[simp] theorem xchg_sdCs (o : Byte) (s : State) : (xchg o s).sdCs = s.sdCs := rfl
@[simp] theorem xchg_busy (o : Byte) (s : State) : (xchg o s).busy = s.busy := rfl
@[simp] theorem xchg_op (o : Byte) (s : State) : (xchg o s).op = s.op := rfl
@[simp] theorem xchg_k (o : Byte) (s : State) : (xchg o s).k = s.k := rfl
@[simp] theorem xchg_result (o : Byte) (s : State) : (xchg o s).result = s.result := rfl
@[simp] theorem xchg_latch (o : Byte) (s : State) : (xchg o s).latch = s.latch := rfl
@[simp] theorem xchg_fifo (o : Byte) (s : State) : (xchg o s).fifo = s.fifo := rfl
@[simp] theorem xchg_fmt (o : Byte) (s : State) : (xchg o s).fmt = s.fmt := rfl
@[simp] theorem xchg_timerArmed (o : Byte) (s : State) : (xchg o s).timerArmed = s.timerArmed := rfl
@[simp] theorem xchg_dac (o : Byte) (s : State) : (xchg o s).dac = s.dac := rfl
@[simp] theorem xchg_mem (o : Byte) (s : State) : (xchg o s).mem = s.mem := rfl
@[simp] theorem xchg_fault (o : Byte) (s : State) : (xchg o s).fault = s.fault := rfl
@[simp] theorem xchg_refused (o : Byte) (s : State) : (xchg o s).refused = s.refused := rfl
@[simp] theorem xchg_hist (o : Byte) (s : State) : (xchg o s).hist = s.hist ++ [.busX s.sdCs o (cardByte o s)] := rfl
@[simp] theorem xchg_env (o : Byte) (s : State) : (xchg o s).env = { s.env with card := s.env.card.tail } := rfl

@[simp] theorem memWrite_cfg (a : Nat) (b : Byte) (s : State) : (memWrite a b s).cfg = s.cfg := rfl
@[simp] theorem memWrite_ct (a : Nat) (b : Byte) (s : State) : (memWrite a b s).ct = s.ct := rfl
@[simp] theorem memWrite_sdCs (a : Nat) (b : Byte) (s : State) : (memWrite a b s).sdCs = s.sdCs := rfl
@[simp] theorem memWrite_busy (a : Nat) (b : Byte) (s : State) : (memWrite a b s).busy = s.busy := rfl
@[simp] theorem memWrite_op (a : Nat) (b : Byte) (s : State) : (memWrite a b s).op = s.op := rfl
@[simp] theorem memWrite_k (a : Nat) (b : Byte) (s : State) : (memWrite a b s).k = s.k := rfl
@[simp] theorem memWrite_result (a : Nat) (b : Byte) (s : State) : (memWrite a b s).result = s.result := rfl
@[simp] theorem memWrite_latch (a : Nat) (b : Byte) (s : State) : (memWrite a b s).latch = s.latch := rfl
@[simp] theorem memWrite_fifo (a : Nat) (b : Byte) (s : State) : (memWrite a b s).fifo = s.fifo := rfl
@[simp] theorem memWrite_fmt (a : Nat) (b : Byte) (s : State) : (memWrite a b s).fmt = s.fmt := rfl
@[simp] theorem memWrite_timerArmed (a : Nat) (b : Byte) (s : State) : (memWrite a b s).timerArmed = s.timerArmed := rfl
@[simp] theorem memWrite_dac (a : Nat) (b : Byte) (s : State) : (memWrite a b s).dac = s.dac := rfl
@[simp] theorem memWrite_mem (a : Nat) (b : Byte) (s : State) : (memWrite a b s).mem = s.mem.write a b := rfl
@[simp] theorem memWrite_fault (a : Nat) (b : Byte) (s : State) : (memWrite a b s).fault = s.fault := rfl
@[simp] theorem memWrite_refused (a : Nat) (b : Byte) (s : State) : (memWrite a b s).refused = s.refused := rfl
@[simp] theorem memWrite_hist (a : Nat) (b : Byte) (s : State) : (memWrite a b s).hist = s.hist := rfl
@[simp] theorem memWrite_env (a : Nat) (b : Byte) (s : State) : (memWrite a b s).env = s.env := rfl

@[simp] theorem fileRead_cfg (j : BufId) (n : Nat) (s : State) : (fileRead j n s).cfg = s.cfg := rfl
@[simp] theorem fileRead_ct (j : BufId) (n : Nat) (s : State) : (fileRead j n s).ct = s.ct := rfl
@[simp] theorem fileRead_sdCs (j : BufId) (n : Nat) (s : State) : (fileRead j n s).sdCs = s.sdCs := rfl
@[simp] theorem fileRead_busy (j : BufId) (n : Nat) (s : State) : (fileRead j n s).busy = s.busy := rfl
@[simp] theorem fileRead_op (j : BufId) (n : Nat) (s : State) : (fileRead j n s).op = s.op := rfl
@[simp] theorem fileRead_k (j : BufId) (n : Nat) (s : State) : (fileRead j n s).k = s.k := rfl
@[simp] theorem fileRead_result (j : BufId) (n : Nat) (s : State) : (fileRead j n s).result = s.result := rfl
@[simp] theorem fileRead_latch (j : BufId) (n : Nat) (s : State) : (fileRead j n s).latch = s.latch := rfl
@[simp] theorem fileRead_fifo (j : BufId) (n : Nat) (s : State) : (fileRead j n s).fifo = s.fifo.setBuf j (fillBuffer (s.fifo.buf j) (fileAnswer j n s)) := rfl
@[simp] theorem fileRead_fmt (j : BufId) (n : Nat) (s : State) : (fileRead j n s).fmt = s.fmt := rfl
@[simp] theorem fileRead_timerArmed (j : BufId) (n : Nat) (s : State) : (fileRead j n s).timerArmed = s.timerArmed := rfl
@[simp] theorem fileRead_dac (j : BufId) (n : Nat) (s : State) : (fileRead j n s).dac = s.dac := rfl
@[simp] theorem fileRead_mem (j : BufId) (n : Nat) (s : State) : (fileRead j n s).mem = s.mem := rfl
@[simp] theorem fileRead_fault (j : BufId) (n : Nat) (s : State) : (fileRead j n s).fault = s.fault := rfl
@[simp] theorem fileRead_refused (j : BufId) (n : Nat) (s : State) : (fileRead j n s).refused = s.refused := rfl
@[simp] theorem fileRead_hist (j : BufId) (n : Nat) (s : State) : (fileRead j n s).hist = s.hist ++ [.fileRead j n (fileAnswer j n s)] := rfl
@[simp] theorem fileRead_env (j : BufId) (n : Nat) (s : State) : (fileRead j n s).env = { s.env with file := s.env.file.tail } := rfl

@[simp] theorem setLen_cfg (j : BufId) (n : Nat) (s : State) : (setLen j n s).cfg = s.cfg := rfl
@[simp] theorem setLen_ct (j : BufId) (n : Nat) (s : State) : (setLen j n s).ct = s.ct := rfl
@[simp] theorem setLen_sdCs (j : BufId) (n : Nat) (s : State) : (setLen j n s).sdCs = s.sdCs := rfl
@[simp] theorem setLen_busy (j : BufId) (n : Nat) (s : State) : (setLen j n s).busy = s.busy := rfl
@[simp] theorem setLen_op (j : BufId) (n : Nat) (s : State) : (setLen j n s).op = s.op := rfl
@[simp] theorem setLen_k (j : BufId) (n : Nat) (s : State) : (setLen j n s).k = s.k := rfl
@[simp] theorem setLen_result (j : BufId) (n : Nat) (s : State) : (setLen j n s).result = s.result := rfl
@[simp] theorem setLen_latch (j : BufId) (n : Nat) (s : State) : (setLen j n s).latch = s.latch := rfl
@[simp] theorem setLen_fifo (j : BufId) (n : Nat) (s : State) : (setLen j n s).fifo = s.fifo.setLen j n := rfl
@[simp] theorem setLen_fmt (j : BufId) (n : Nat) (s : State) : (setLen j n s).fmt = s.fmt := rfl
@[simp] theorem setLen_timerArmed (j : BufId) (n : Nat) (s : State) : (setLen j n s).timerArmed = s.timerArmed := rfl
@[simp] theorem setLen_dac (j : BufId) (n : Nat) (s : State) : (setLen j n s).dac = s.dac := rfl
@[simp] theorem setLen_mem (j : BufId) (n : Nat) (s : State) : (setLen j n s).mem = s.mem := rfl
@[simp] theorem setLen_fault (j : BufId) (n : Nat) (s : State) : (setLen j n s).fault = s.fault := rfl
@[simp] theorem setLen_refused (j : BufId) (n : Nat) (s : State) : (setLen j n s).refused = s.refused := rfl
@[simp] theorem setLen_hist (j : BufId) (n : Nat) (s : State) : (setLen j n s).hist = s.hist := rfl
@[simp] theorem setLen_env (j : BufId) (n : Nat) (s : State) : (setLen j n s).env = s.env := rfl

@[simp] theorem arm_cfg (s : State) : (arm s).cfg = s.cfg := rfl
@[simp] theorem arm_ct (s : State) : (arm s).ct = s.ct := rfl
@[simp] theorem arm_sdCs (s : State) : (arm s).sdCs = s.sdCs := rfl
@[simp] theorem arm_busy (s : State) : (arm s).busy = s.busy := rfl
@[simp] theorem arm_op (s : State) : (arm s).op = s.op := rfl
@[simp] theorem arm_k (s : State) : (arm s).k = s.k := rfl
@[simp] theorem arm_result (s : State) : (arm s).result = s.result := rfl
@[simp] theorem arm_latch (s : State) : (arm s).latch = s.latch := rfl
@[simp] theorem arm_fifo (s : State) : (arm s).fifo = s.fifo := rfl
@[simp] theorem arm_fmt (s : State) : (arm s).fmt = s.fmt := rfl
@[simp] theorem arm_timerArmed (s : State) : (arm s).timerArmed = true := rfl
@[simp] theorem arm_dac (s : State) : (arm s).dac = s.dac := rfl
@[simp] theorem arm_mem (s : State) : (arm s).mem = s.mem := rfl
@[simp] theorem arm_fault (s : State) : (arm s).fault = s.fault := rfl
@[simp] theorem arm_refused (s : State) : (arm s).refused = s.refused := rfl
@[simp] theorem arm_hist (s : State) : (arm s).hist = s.hist ++ [.arm] := rfl
@[simp] theorem arm_env (s : State) : (arm s).env = s.env := rfl

@[simp] theorem disarm_cfg (s : State) : (disarm s).cfg = s.cfg := rfl
@[simp] theorem disarm_ct (s : State) : (disarm s).ct = s.ct := rfl
@[simp] theorem disarm_sdCs (s : State) : (disarm s).sdCs = s.sdCs := rfl
@[simp] theorem disarm_busy (s : State) : (disarm s).busy = s.busy := rfl
@[simp] theorem disarm_op (s : State) : (disarm s).op = s.op := rfl
@[simp] theorem disarm_k (s : State) : (disarm s).k = s.k := rfl
@[simp] theorem disarm_result (s : State) : (disarm s).result = s.result := rfl
@[simp] theorem disarm_latch (s : State) : (disarm s).latch = s.latch := rfl
@[simp] theorem disarm_fifo (s : State) : (disarm s).fifo = s.fifo := rfl
@[simp] theorem disarm_fmt (s : State) : (disarm s).fmt = s.fmt := rfl
@[simp] theorem disarm_timerArmed (s : State) : (disarm s).timerArmed = false := rfl
@[simp] theorem disarm_dac (s : State) : (disarm s).dac = s.dac := rfl
@[simp] theorem disarm_mem (s : State) : (disarm s).mem = s.mem := rfl
@[simp] theorem disarm_fault (s : State) : (disarm s).fault = s.fault := rfl
@[simp] theorem disarm_refused (s : State) : (disarm s).refused = s.refused := rfl
@[simp] theorem disarm_hist (s : State) : (disarm s).hist = s.hist ++ [.disarm] := rfl
@[simp] theorem disarm_env (s : State) : (disarm s).env = s.env := rfl

@[simp] theorem writeCt_cfg (ty : BitVec 4) (s : State) : (writeCt ty s).cfg = s.cfg := rfl
@[simp] theorem writeCt_ct (ty : BitVec 4) (s : State) : (writeCt ty s).ct = ty := rfl
@[simp] theorem writeCt_sdCs (ty : BitVec 4) (s : State) : (writeCt ty s).sdCs = s.sdCs := rfl
@[simp] theorem writeCt_busy (ty : BitVec 4) (s : State) : (writeCt ty s).busy = s.busy := rfl
@[simp] theorem writeCt_op (ty : BitVec 4) (s : State) : (writeCt ty s).op = s.op := rfl
@[simp] theorem writeCt_k (ty : BitVec 4) (s : State) : (writeCt ty s).k = s.k := rfl
@[simp] theorem writeCt_result (ty : BitVec 4) (s : State) : (writeCt ty s).result = s.result := rfl
@[simp] theorem writeCt_latch (ty : BitVec 4) (s : State) : (writeCt ty s).latch = s.latch := rfl
@[simp] theorem writeCt_fifo (ty : BitVec 4) (s : State) : (writeCt ty s).fifo = s.fifo := rfl
@[simp] theorem writeCt_fmt (ty : BitVec 4) (s : State) : (writeCt ty s).fmt = s.fmt := rfl
@[simp] theorem writeCt_timerArmed (ty : BitVec 4) (s : State) : (writeCt ty s).timerArmed = s.timerArmed := rfl
@[simp] theorem writeCt_dac (ty : BitVec 4) (s : State) : (writeCt ty s).dac = s.dac := rfl
@[simp] theorem writeCt_mem (ty : BitVec 4) (s : State) : (writeCt ty s).mem = s.mem := rfl
@[simp] theorem writeCt_fault (ty : BitVec 4) (s : State) : (writeCt ty s).fault = s.fault := rfl
@[simp] theorem writeCt_refused (ty : BitVec 4) (s : State) : (writeCt ty s).refused = s.refused := rfl
@[simp] theorem writeCt_hist (ty : BitVec 4) (s : State) : (writeCt ty s).hist = s.hist := rfl
@[simp] theorem writeCt_env (ty : BitVec 4) (s : State) : (writeCt ty s).env = s.env := rfl

@[simp] theorem emit_cfg (w : Half) (s : State) : (emit w s).cfg = s.cfg := rfl
@[simp] theorem emit_ct (w : Half) (s : State) : (emit w s).ct = s.ct := rfl
@[simp] theorem emit_sdCs (w : Half) (s : State) : (emit w s).sdCs = s.sdCs := rfl
@[simp] theorem emit_busy (w : Half) (s : State) : (emit w s).busy = s.busy := rfl
@[simp] theorem emit_op (w : Half) (s : State) : (emit w s).op = s.op := rfl
@[simp] theorem emit_k (w : Half) (s : State) : (emit w s).k = s.k := rfl
@[simp] theorem emit_result (w : Half) (s : State) : (emit w s).result = s.result := rfl
@[simp] theorem emit_latch (w : Half) (s : State) : (emit w s).latch = s.latch := rfl
@[simp] theorem emit_fifo (w : Half) (s : State) : (emit w s).fifo = s.fifo := rfl
@[simp] theorem emit_fmt (w : Half) (s : State) : (emit w s).fmt = s.fmt := rfl
@[simp] theorem emit_timerArmed (w : Half) (s : State) : (emit w s).timerArmed = s.timerArmed := rfl
@[simp] theorem emit_dac (w : Half) (s : State) : (emit w s).dac = (dacActs w).foldl driveDac s.dac := rfl
@[simp] theorem emit_mem (w : Half) (s : State) : (emit w s).mem = s.mem := rfl
@[simp] theorem emit_fault (w : Half) (s : State) : (emit w s).fault = s.fault := rfl
@[simp] theorem emit_refused (w : Half) (s : State) : (emit w s).refused = s.refused := rfl
@[simp] theorem emit_hist (w : Half) (s : State) : (emit w s).hist = s.hist ++ [.dacFrame w] := rfl
@[simp] theorem emit_env (w : Half) (s : State) : (emit w s).env = s.env := rfl

@[simp] theorem tickCommit_cfg (s : State) : (tickCommit s).cfg = s.cfg := rfl
@[simp] theorem tickCommit_ct (s : State) : (tickCommit s).ct = s.ct := rfl
@[simp] theorem tickCommit_sdCs (s : State) : (tickCommit s).sdCs = s.sdCs := rfl
@[simp] theorem tickCommit_busy (s : State) : (tickCommit s).busy = s.busy := rfl
@[simp] theorem tickCommit_op (s : State) : (tickCommit s).op = s.op := rfl
@[simp] theorem tickCommit_k (s : State) : (tickCommit s).k = s.k := rfl
@[simp] theorem tickCommit_result (s : State) : (tickCommit s).result = s.result := rfl
@[simp] theorem tickCommit_latch (s : State) : (tickCommit s).latch = s.latch := rfl
@[simp] theorem tickCommit_fmt (s : State) : (tickCommit s).fmt = s.fmt := rfl
@[simp] theorem tickCommit_timerArmed (s : State) : (tickCommit s).timerArmed = s.timerArmed := rfl
@[simp] theorem tickCommit_dac (s : State) : (tickCommit s).dac = s.dac := rfl
@[simp] theorem tickCommit_mem (s : State) : (tickCommit s).mem = s.mem := rfl
@[simp] theorem tickCommit_fault (s : State) : (tickCommit s).fault = s.fault := rfl
@[simp] theorem tickCommit_refused (s : State) : (tickCommit s).refused = s.refused := rfl
@[simp] theorem tickCommit_hist (s : State) : (tickCommit s).hist = s.hist := rfl
@[simp] theorem tickCommit_env (s : State) : (tickCommit s).env = s.env := rfl

@[simp] theorem popLine_cfg (s : State) : (popLine s).cfg = s.cfg := rfl
@[simp] theorem popLine_ct (s : State) : (popLine s).ct = s.ct := rfl
@[simp] theorem popLine_sdCs (s : State) : (popLine s).sdCs = s.sdCs := rfl
@[simp] theorem popLine_busy (s : State) : (popLine s).busy = s.busy := rfl
@[simp] theorem popLine_op (s : State) : (popLine s).op = s.op := rfl
@[simp] theorem popLine_k (s : State) : (popLine s).k = s.k := rfl
@[simp] theorem popLine_result (s : State) : (popLine s).result = s.result := rfl
@[simp] theorem popLine_latch (s : State) : (popLine s).latch = s.latch := rfl
@[simp] theorem popLine_fifo (s : State) : (popLine s).fifo = s.fifo := rfl
@[simp] theorem popLine_fmt (s : State) : (popLine s).fmt = s.fmt := rfl
@[simp] theorem popLine_timerArmed (s : State) : (popLine s).timerArmed = s.timerArmed := rfl
@[simp] theorem popLine_dac (s : State) : (popLine s).dac = s.dac := rfl
@[simp] theorem popLine_mem (s : State) : (popLine s).mem = s.mem := rfl
@[simp] theorem popLine_fault (s : State) : (popLine s).fault = s.fault := rfl
@[simp] theorem popLine_refused (s : State) : (popLine s).refused = s.refused := rfl
@[simp] theorem popLine_hist (s : State) : (popLine s).hist = s.hist := rfl
@[simp] theorem popLine_env (s : State) : (popLine s).env = { s.env with program := s.env.program.tail } := rfl

@[simp] theorem issueReserved_cfg (c : Byte) (l : List Byte) (s : State) : (issueReserved c l s).cfg = s.cfg := rfl
@[simp] theorem issueReserved_ct (c : Byte) (l : List Byte) (s : State) : (issueReserved c l s).ct = s.ct := rfl
@[simp] theorem issueReserved_sdCs (c : Byte) (l : List Byte) (s : State) : (issueReserved c l s).sdCs = s.sdCs := rfl
@[simp] theorem issueReserved_busy (c : Byte) (l : List Byte) (s : State) : (issueReserved c l s).busy = s.busy := rfl
@[simp] theorem issueReserved_op (c : Byte) (l : List Byte) (s : State) : (issueReserved c l s).op = s.op := rfl
@[simp] theorem issueReserved_k (c : Byte) (l : List Byte) (s : State) : (issueReserved c l s).k = s.k := rfl
@[simp] theorem issueReserved_result (c : Byte) (l : List Byte) (s : State) : (issueReserved c l s).result = s.result := rfl
@[simp] theorem issueReserved_latch (c : Byte) (l : List Byte) (s : State) : (issueReserved c l s).latch = s.latch := rfl
@[simp] theorem issueReserved_fifo (c : Byte) (l : List Byte) (s : State) : (issueReserved c l s).fifo = s.fifo := rfl
@[simp] theorem issueReserved_fmt (c : Byte) (l : List Byte) (s : State) : (issueReserved c l s).fmt = s.fmt := rfl
@[simp] theorem issueReserved_timerArmed (c : Byte) (l : List Byte) (s : State) : (issueReserved c l s).timerArmed = s.timerArmed := rfl
@[simp] theorem issueReserved_dac (c : Byte) (l : List Byte) (s : State) : (issueReserved c l s).dac = s.dac := rfl
@[simp] theorem issueReserved_mem (c : Byte) (l : List Byte) (s : State) : (issueReserved c l s).mem = s.mem := rfl
@[simp] theorem issueReserved_fault (c : Byte) (l : List Byte) (s : State) : (issueReserved c l s).fault = s.fault := rfl
@[simp] theorem issueReserved_refused (c : Byte) (l : List Byte) (s : State) : (issueReserved c l s).refused = some .reservedOp := rfl
@[simp] theorem issueReserved_hist (c : Byte) (l : List Byte) (s : State) : (issueReserved c l s).hist = s.hist ++ [.issue c l] := rfl
@[simp] theorem issueReserved_env (c : Byte) (l : List Byte) (s : State) : (issueReserved c l s).env = s.env := rfl

@[simp] theorem tickCommit_fifo_bufA (s : State) : (tickCommit s).fifo.bufA = s.fifo.bufA := rfl
@[simp] theorem tickCommit_fifo_bufB (s : State) : (tickCommit s).fifo.bufB = s.fifo.bufB := rfl
@[simp] theorem tickCommit_fifo_lenA (s : State) : (tickCommit s).fifo.lenA = s.fifo.lenA := rfl
@[simp] theorem tickCommit_fifo_lenB (s : State) : (tickCommit s).fifo.lenB = s.fifo.lenB := rfl
@[simp] theorem tickCommit_fifo_act (s : State) : (tickCommit s).fifo.act = (tickRange s).act := rfl
@[simp] theorem tickCommit_fifo_cur (s : State) : (tickCommit s).fifo.cur = (tickRange s).cur + sampleWidth s := rfl
@[simp] theorem tickCommit_fifo_endp (s : State) : (tickCommit s).fifo.endp = (tickRange s).endp := rfl
@[simp] theorem tickCommit_fifo_status (s : State) : (tickCommit s).fifo.status = if rangeExhausted s then statusFilling else s.fifo.status := rfl
@[simp] theorem tickCommit_fifo_played (s : State) : (tickCommit s).fifo.played = s.fifo.played + BitVec.ofNat 32 (sampleWidth s) := rfl

@[simp] theorem tx_eq_xchg (o : Byte) (s : State) : tx o s = xchg o s := rfl

@[simp] theorem rx_eq_xchg (s : State) : rx s = xchg filler s := rfl

/-! ## Taking a turn changes the schedule's own fields only -/

/-- The schedule after the choice is the state with another schedule and another turn. -/
theorem takeTurn_eq (s : State) :
    ∃ sched turn, takeTurn s = { s with env := { s.env with sched := sched, turn := turn } } := by
  unfold takeTurn
  split
  · exact ⟨_, s.env.turn, rfl⟩
  · exact ⟨s.env.sched, _, rfl⟩
  · exact ⟨s.env.sched, s.env.turn, rfl⟩

@[simp] theorem takeTurn_cfg (s : State) : (takeTurn s).cfg = s.cfg := by
  obtain ⟨_, _, h⟩ := takeTurn_eq s; rw [h]
@[simp] theorem takeTurn_ct (s : State) : (takeTurn s).ct = s.ct := by
  obtain ⟨_, _, h⟩ := takeTurn_eq s; rw [h]
@[simp] theorem takeTurn_sdCs (s : State) : (takeTurn s).sdCs = s.sdCs := by
  obtain ⟨_, _, h⟩ := takeTurn_eq s; rw [h]
@[simp] theorem takeTurn_busy (s : State) : (takeTurn s).busy = s.busy := by
  obtain ⟨_, _, h⟩ := takeTurn_eq s; rw [h]
@[simp] theorem takeTurn_op (s : State) : (takeTurn s).op = s.op := by
  obtain ⟨_, _, h⟩ := takeTurn_eq s; rw [h]
@[simp] theorem takeTurn_k (s : State) : (takeTurn s).k = s.k := by
  obtain ⟨_, _, h⟩ := takeTurn_eq s; rw [h]
@[simp] theorem takeTurn_result (s : State) : (takeTurn s).result = s.result := by
  obtain ⟨_, _, h⟩ := takeTurn_eq s; rw [h]
@[simp] theorem takeTurn_latch (s : State) : (takeTurn s).latch = s.latch := by
  obtain ⟨_, _, h⟩ := takeTurn_eq s; rw [h]
@[simp] theorem takeTurn_fifo (s : State) : (takeTurn s).fifo = s.fifo := by
  obtain ⟨_, _, h⟩ := takeTurn_eq s; rw [h]
@[simp] theorem takeTurn_fmt (s : State) : (takeTurn s).fmt = s.fmt := by
  obtain ⟨_, _, h⟩ := takeTurn_eq s; rw [h]
@[simp] theorem takeTurn_timerArmed (s : State) : (takeTurn s).timerArmed = s.timerArmed := by
  obtain ⟨_, _, h⟩ := takeTurn_eq s; rw [h]
@[simp] theorem takeTurn_dac (s : State) : (takeTurn s).dac = s.dac := by
  obtain ⟨_, _, h⟩ := takeTurn_eq s; rw [h]
@[simp] theorem takeTurn_mem (s : State) : (takeTurn s).mem = s.mem := by
  obtain ⟨_, _, h⟩ := takeTurn_eq s; rw [h]
@[simp] theorem takeTurn_fault (s : State) : (takeTurn s).fault = s.fault := by
  obtain ⟨_, _, h⟩ := takeTurn_eq s; rw [h]
@[simp] theorem takeTurn_refused (s : State) : (takeTurn s).refused = s.refused := by
  obtain ⟨_, _, h⟩ := takeTurn_eq s; rw [h]
@[simp] theorem takeTurn_hist (s : State) : (takeTurn s).hist = s.hist := by
  obtain ⟨_, _, h⟩ := takeTurn_eq s; rw [h]
@[simp] theorem takeTurn_env_program (s : State) : (takeTurn s).env.program = s.env.program := by
  obtain ⟨_, _, h⟩ := takeTurn_eq s; rw [h]
@[simp] theorem takeTurn_env_card (s : State) : (takeTurn s).env.card = s.env.card := by
  obtain ⟨_, _, h⟩ := takeTurn_eq s; rw [h]
@[simp] theorem takeTurn_env_file (s : State) : (takeTurn s).env.file = s.env.file := by
  obtain ⟨_, _, h⟩ := takeTurn_eq s; rw [h]
@[simp] theorem takeTurn_env_hostData (s : State) : (takeTurn s).env.hostData = s.env.hostData := by
  obtain ⟨_, _, h⟩ := takeTurn_eq s; rw [h]

/-! ## Audio buffers -/

@[simp] theorem BufId.other_ne (k : BufId) : k.other ≠ k := by cases k <;> simp [BufId.other]

@[simp] theorem BufId.ne_other (k : BufId) : k ≠ k.other := by cases k <;> simp [BufId.other]

theorem BufId.eq_other_of_ne {j k : BufId} (h : j ≠ k) : j = k.other := by
  cases j <;> cases k <;> simp_all [BufId.other]

theorem Fifo.buf_setBuf (f : Fifo) (j k : BufId) (m : Memory) :
    (f.setBuf j m).buf k = if k = j then m else f.buf k := by
  cases j <;> cases k <;> simp [Fifo.setBuf, Fifo.buf]

theorem Fifo.len_setLen (f : Fifo) (j k : BufId) (n : Nat) :
    (f.setLen j n).len k = if k = j then n else f.len k := by
  cases j <;> cases k <;> simp [Fifo.setLen, Fifo.len]

@[simp] theorem Fifo.setBuf_lenA (f : Fifo) (k : BufId) (m : Memory) : (f.setBuf k m).lenA = f.lenA := by
  cases k <;> rfl
@[simp] theorem Fifo.setBuf_lenB (f : Fifo) (k : BufId) (m : Memory) : (f.setBuf k m).lenB = f.lenB := by
  cases k <;> rfl
@[simp] theorem Fifo.setBuf_act (f : Fifo) (k : BufId) (m : Memory) : (f.setBuf k m).act = f.act := by
  cases k <;> rfl
@[simp] theorem Fifo.setBuf_cur (f : Fifo) (k : BufId) (m : Memory) : (f.setBuf k m).cur = f.cur := by
  cases k <;> rfl
@[simp] theorem Fifo.setBuf_endp (f : Fifo) (k : BufId) (m : Memory) : (f.setBuf k m).endp = f.endp := by
  cases k <;> rfl
@[simp] theorem Fifo.setBuf_status (f : Fifo) (k : BufId) (m : Memory) : (f.setBuf k m).status = f.status := by
  cases k <;> rfl
@[simp] theorem Fifo.setBuf_played (f : Fifo) (k : BufId) (m : Memory) : (f.setBuf k m).played = f.played := by
  cases k <;> rfl
@[simp] theorem Fifo.setBuf_len (f : Fifo) (j k : BufId) (m : Memory) : (f.setBuf j m).len k = f.len k := by
  cases j <;> cases k <;> rfl
@[simp] theorem Fifo.setLen_bufA (f : Fifo) (k : BufId) (n : Nat) : (f.setLen k n).bufA = f.bufA := by
  cases k <;> rfl
@[simp] theorem Fifo.setLen_bufB (f : Fifo) (k : BufId) (n : Nat) : (f.setLen k n).bufB = f.bufB := by
  cases k <;> rfl
@[simp] theorem Fifo.setLen_act (f : Fifo) (k : BufId) (n : Nat) : (f.setLen k n).act = f.act := by
  cases k <;> rfl
@[simp] theorem Fifo.setLen_cur (f : Fifo) (k : BufId) (n : Nat) : (f.setLen k n).cur = f.cur := by
  cases k <;> rfl
@[simp] theorem Fifo.setLen_endp (f : Fifo) (k : BufId) (n : Nat) : (f.setLen k n).endp = f.endp := by
  cases k <;> rfl
@[simp] theorem Fifo.setLen_status (f : Fifo) (k : BufId) (n : Nat) : (f.setLen k n).status = f.status := by
  cases k <;> rfl
@[simp] theorem Fifo.setLen_played (f : Fifo) (k : BufId) (n : Nat) : (f.setLen k n).played = f.played := by
  cases k <;> rfl
@[simp] theorem Fifo.setLen_buf (f : Fifo) (j k : BufId) (n : Nat) : (f.setLen j n).buf k = f.buf k := by
  cases j <;> cases k <;> rfl

end Sys2Proof.Machine
end

