-- ==== Sys2Proof/Laws/Step.lean ====
section
/-! SUPPORT. What a step can do, said once: the inversion of `step`, and which agent moves. -/

namespace Sys2Proof.Machine

/-! ## Decoding keeps to its port -/

theorem decodeFrame_port {a : Byte} {arg : Word} {c : Byte} {i : Instr}
    (h : decodeFrame a arg c = .ok i) : i.port = .sdcmd48 := by
  unfold decodeFrame at h
  repeat' split at h
  all_goals first | (injection h with h; subst h; rfl) | cases h

theorem decodeHost_port {bytes rest : List Byte} {i : Instr}
    (h : decodeHost bytes = .ok (i, rest)) : i.port = .hostop := by
  unfold decodeHost at h
  split at h
  · cases h
  · repeat' split at h
    all_goals
      first
      | (injection h with h; injection h with h _; subst h; rfl)
      | cases h
      | skip
    · unfold decodeReadp at h
      repeat' split at h
      all_goals first | (injection h with h; injection h with h _; subst h; rfl) | cases h
    · unfold decodeWritepInit at h
      split at h
      all_goals first | (injection h with h; injection h with h _; subst h; rfl) | cases h
    · unfold decodeWritepAppend at h
      split at h
      all_goals first | (injection h with h; injection h with h _; subst h; rfl) | cases h
    · unfold decodeLoadfmt at h
      split at h
      all_goals first | (injection h with h; injection h with h _; subst h; rfl) | cases h

/-- What a port's bytes decode to belongs to that port. -/
theorem decodeWord_port {p : Port} {bytes : List Byte} {i : Instr}
    (h : decodeWord p bytes = .ok i) : i.port = p := by
  unfold decodeWord at h
  split at h
  next j hd =>
    injection h with h; subst h
    cases p with
    | sdcmd48 =>
      simp only [decode, decodeSd] at hd
      split at hd
      · split at hd
        next hf => injection hd with hd; injection hd with hd _; subst hd; exact decodeFrame_port hf
        next => cases hd
      · cases hd
    | dac16 =>
      simp only [decode, decodeDac] at hd
      split at hd
      · injection hd with hd; injection hd with hd _; subst hd; rfl
      · cases hd
    | hostop => exact decodeHost_port hd
  · cases h
  · cases h

/-! ## Who moves -/

theorem tick_takeTurn (s : State) : tick (takeTurn s) = tick s := by
  obtain ⟨_, _, h⟩ := takeTurn_eq s; rw [h]; rfl

/-- HOST has no step while an operation is in progress (60_exceptions.md R291). -/
theorem hostHasStep_of_busy {s : State} (h : s.busy = true) : hostHasStep s = false := by
  simp [hostHasStep, h]

/-- The agent that moves has a step. -/
theorem hasStep_of_mover {s : State} {a : Agent} (h : mover s = some a) : hasStep s a = true := by
  unfold mover at h
  split at h
  · cases h
  next b more he =>
    have hb : hasStep s b = true := by
      have : b ∈ enabledAgents s := he ▸ List.mem_cons_self
      exact (List.mem_filter.1 this).2
    have hp : ∀ n, hasStep s (pick s n b) = true := fun n => by
      unfold pick; split
      · assumption
      · exact hb
    split at h <;> injection h with h <;> subst h
    · exact hp _
    · exact hb
    · exact hp _

/-- When CTL alone has a step, CTL moves, whatever the schedule says. -/
theorem mover_eq_ctl {s : State} (hh : hostHasStep s = false) (hc : ctlHasStep s = true)
    (he : emtHasStep s = false) : mover s = some .ctl := by
  have hl : enabledAgents s = [.ctl] := by
    simp [enabledAgents, hasStep, hh, hc, he]
  unfold mover
  rw [hl]
  cases hs : s.env.sched with
  | nil => rfl
  | cons b bs => cases b <;> simp [pick, hasStep, hh, hc, he]

/-! ## The inversion of a step -/

/-- The step once the agent's fetch is known. -/
def afterFetch (f : Fetched) : Host.Outcome State Fault Refusal :=
  match f with
  | .done o => o
  | .word p bytes s =>
    match decodeWord p bytes with
    | .ok i => exec i s
    | .error e => rejectWord bytes e s

/-- A state not stopped steps as its mover fetches. -/
theorem step_of_mover {s : State} {a : Agent} (hf : s.fault = []) (hr : s.refused = none)
    (hm : mover s = some a) : step s = afterFetch (agentFetch (takeTurn s) a) := by
  simp only [step, fetch, hf, hr, hm, ne_eq, not_true_eq_false, if_false]; rfl

/-- Bytes that are no instruction leave a next state only for a reserved host code. -/
theorem rejectWord_next {bytes : List Byte} {e : DecodeError} {s t : State}
    (h : rejectWord bytes e s = .next t) :
    ∃ code, e = .reservedOp code ∧ t = issueReserved code bytes.tail s := by
  unfold rejectWord at h
  split at h
  next code => injection h with h; exact ⟨code, rfl, h.symm⟩
  next => cases h

/-- HOST's step. -/
theorem hostFetch_next {s t : State} (h : afterFetch (hostFetch s) = .next t) :
    (∃ n more, s.env.program = .read n :: more ∧ t = hostRead n (popLine s)) ∨
    (∃ bytes more code, s.env.program = .issue bytes :: more ∧
      decodeWord .hostop bytes = .error (.reservedOp code) ∧
      t = issueReserved code bytes.tail (popLine s)) ∨
    (∃ bytes more i, s.env.program = .issue bytes :: more ∧
      decodeWord .hostop bytes = .ok i ∧ exec i (popLine s) = .next t) := by
  unfold hostFetch at h
  split at h
  · cases h
  next bytes more hp =>
    simp only [afterFetch] at h
    split at h
    next i hd => exact .inr (.inr ⟨bytes, more, i, hp, hd, h⟩)
    next e hd =>
      obtain ⟨code, rfl, ht⟩ := rejectWord_next h
      exact .inr (.inl ⟨bytes, more, code, hp, hd, ht⟩)
  next n more hp =>
    simp only [afterFetch] at h
    injection h with h
    exact .inl ⟨n, more, hp, h.symm⟩

/-- A command frame is refused by one name only. -/
theorem decodeFrame_error {a : Byte} {arg : Word} {c : Byte} {e : DecodeError}
    (h : decodeFrame a arg c = .error e) : e = .unknownFrame := by
  unfold decodeFrame at h
  repeat' split at h
  all_goals first | (injection h with h; exact h.symm) | cases h

/-- A frame's bytes decode, or are no word of the block: they are never a reserved host code. -/
theorem decodeWord_sdcmd48_not_reserved {bytes : List Byte} {code : Byte} :
    decodeWord .sdcmd48 bytes ≠ .error (.reservedOp code) := by
  intro h
  unfold decodeWord at h
  split at h
  · cases h
  · cases h
  next e hd =>
    injection h with h; subst h
    simp only [decode, decodeSd] at hd
    split at hd
    · split at hd
      · cases hd
      next hf => injection hd with hd; subst hd; exact DecodeError.noConfusion (decodeFrame_error hf)
    · cases hd

/-- CTL's step. -/
theorem ctlFetch_next {s t : State} (h : afterFetch (ctlFetch s) = .next t) :
    (∃ frame ret i, s.k = .send frame ret ∧ decodeWord .sdcmd48 frame = .ok i ∧
      exec i s = .next t) ∨
    ((∀ frame ret, s.k ≠ .send frame ret) ∧ t = ctlStep s) := by
  unfold ctlFetch at h
  split at h
  next frame ret hk =>
    simp only [afterFetch] at h
    split at h
    next i hd => exact .inl ⟨frame, ret, i, hk, hd, h⟩
    next e hd =>
      obtain ⟨code, rfl, _⟩ := rejectWord_next h
      exact absurd hd decodeWord_sdcmd48_not_reserved
  next hk =>
    simp only [afterFetch] at h
    injection h with h
    exact .inr ⟨fun frame ret hc => hk frame ret hc, h.symm⟩

/-- A frame word's two bytes decode to DAC_WRITE of the word. -/
theorem decodeWord_bytesOfHalf (w : Half) :
    decodeWord .dac16 (bytesOfHalf w) = .ok (.dacWrite (w.extractLsb' 12 4) (w.extractLsb' 0 12)) := by
  simp only [decodeWord, decode, decodeDac, bytesOfHalf]
  congr 2
  · ext i hi; simp; grind
  · ext i hi; simp; grind

/-- DAC_WRITE of a word's two fields emits the word. -/
theorem exec_dacWrite_fields (w : Half) (s : State) :
    exec (.dacWrite (w.extractLsb' 12 4) (w.extractLsb' 0 12)) s = .next (emit w s) := by
  have e : w.extractLsb' 12 4 ++ w.extractLsb' 0 12 = w := by
    ext i hi; simp; grind
  show Host.Outcome.next (emit (w.extractLsb' 12 4 ++ w.extractLsb' 0 12) s) = _
  rw [e]

/-- EMT's step. -/
theorem emtFetch_next {s t : State} (h : afterFetch (emtFetch s) = .next t) :
    (tick s = .ack ∧ t = s) ∨ (∃ kind, tick s = .raises kind ∧ t = raise kind s) ∨
    (∃ w, tick s = .emits w ∧ t = emit w (tickCommit s)) := by
  unfold emtFetch at h
  split at h
  next ht => injection h with h; exact .inl ⟨ht, h.symm⟩
  next kind ht => injection h with h; exact .inr (.inl ⟨kind, ht, h.symm⟩)
  · cases h
  · cases h
  next w ht =>
    simp only [afterFetch, decodeWord_bytesOfHalf, exec_dacWrite_fields] at h
    injection h with h
    exact .inr (.inr ⟨w, ht, h.symm⟩)

/-- Everything a step that answers a next state can have done: HOST read a register, had a reserved code
refused or issued an operation; CTL began a frame or took a step of its own; EMT acknowledged, faulted or
emitted. -/
theorem step_next_cases {s t : State} (h : step s = .next t) :
    s.fault = [] ∧ s.refused = none ∧
    ((mover s = some .host ∧ ∃ n more, s.env.program = .read n :: more ∧
        t = hostRead n (popLine (takeTurn s))) ∨
     (mover s = some .host ∧ ∃ bytes more code, s.env.program = .issue bytes :: more ∧
        decodeWord .hostop bytes = .error (.reservedOp code) ∧
        t = issueReserved code bytes.tail (popLine (takeTurn s))) ∨
     (mover s = some .host ∧ ∃ bytes more i, s.env.program = .issue bytes :: more ∧
        decodeWord .hostop bytes = .ok i ∧ exec i (popLine (takeTurn s)) = .next t) ∨
     (mover s = some .ctl ∧ ∃ frame ret i, s.k = .send frame ret ∧
        decodeWord .sdcmd48 frame = .ok i ∧ exec i (takeTurn s) = .next t) ∨
     (mover s = some .ctl ∧ (∀ frame ret, s.k ≠ .send frame ret) ∧ t = ctlStep (takeTurn s)) ∨
     (mover s = some .emt ∧ tick s = .ack ∧ t = takeTurn s) ∨
     (mover s = some .emt ∧ ∃ kind, tick s = .raises kind ∧ t = raise kind (takeTurn s)) ∨
     (mover s = some .emt ∧ ∃ w, tick s = .emits w ∧ t = emit w (tickCommit (takeTurn s)))) := by
  have hf : s.fault = [] := by
    by_contra hc; simp [step, fetch, hc] at h
  have hr : s.refused = none := by
    by_contra hc; simp [step, fetch, hf, hc] at h
  refine ⟨hf, hr, ?_⟩
  cases hm : mover s with
  | none => simp [step, fetch, hf, hr, hm] at h
  | some a =>
    rw [step_of_mover hf hr hm] at h
    cases a with
    | host =>
      have hc := hostFetch_next h
      simp only [takeTurn_env_program] at hc
      rcases hc with hc | hc | hc
      · exact .inl ⟨rfl, hc⟩
      · exact .inr (.inl ⟨rfl, hc⟩)
      · exact .inr (.inr (.inl ⟨rfl, hc⟩))
    | ctl =>
      have hc := ctlFetch_next h
      simp only [takeTurn_k] at hc
      rcases hc with hc | hc
      · exact .inr (.inr (.inr (.inl ⟨rfl, hc⟩)))
      · exact .inr (.inr (.inr (.inr (.inl ⟨rfl, hc⟩))))
    | emt =>
      have hc := emtFetch_next h
      simp only [tick_takeTurn] at hc
      rcases hc with hc | hc | hc
      · exact .inr (.inr (.inr (.inr (.inr (.inl ⟨rfl, hc⟩)))))
      · exact .inr (.inr (.inr (.inr (.inr (.inr (.inl ⟨rfl, hc⟩))))))
      · exact .inr (.inr (.inr (.inr (.inr (.inr (.inr ⟨rfl, hc⟩))))))

end Sys2Proof.Machine
end

