-- ==== Sys2Proof/Laws/Talk.lean ====
section
/-! SUPPORT. What the pieces of INIT's pseudocode over the card's answers can do, said once. -/

namespace Sys2Proof.Machine

/-- Two stretches in turn give what each gives, with the transcripts one after the other. -/
theorem Talk.andThen_eq_some {α β : Type} {first : Talk α} {next : α → List Byte → Talk β} {b : β}
    {events : List Event} {rest : List Byte} :
    first.andThen next = some (b, events, rest) ↔
      ∃ a early mid late, first = some (a, early, mid) ∧ next a mid = some (b, late, rest) ∧
        events = early ++ late := by
  cases first with
  | none => simp [Talk.andThen]
  | some x =>
    obtain ⟨a, early, mid⟩ := x
    simp only [Talk.andThen, Option.bind_some, Option.map_eq_some_iff]
    constructor
    · rintro ⟨⟨b', late, left⟩, hn, he⟩
      injection he with h1 h2; injection h2 with h2 h3
      subst h1 h2 h3
      exact ⟨a, early, mid, late, rfl, hn, rfl⟩
    · rintro ⟨a', early', mid', late, hf, hn, rfl⟩
      injection hf with hf; injection hf with h1 h2; injection h2 with h2 h3
      subst h1 h2 h3
      exact ⟨_, hn, rfl⟩

@[simp] theorem Talk.quiet_eq_some {α : Type} {a b : α} {ans rest : List Byte}
    {events : List Event} :
    (Talk.quiet a ans : Talk α) = some (b, events, rest) ↔ a = b ∧ events = [] ∧ ans = rest := by
  simp [Talk.quiet, eq_comm]

/-- So many exchanges use so many answers. -/
theorem refSkip_eq_some {n : Nat} {ans rest : List Byte} :
    refSkip n ans = some rest ↔ n ≤ ans.length ∧ ans.drop n = rest := by
  simp [refSkip]

end Sys2Proof.Machine
end

