-- ==== Sys2Proof/Tests/Slice0.lean ====
section
/-! SUPPORT. The model's own tests. Expected values come from spec/ (the vectors and examples of 95_test_vectors.md, the
encoding tables, hand calculation), and each test is one decode or one step. The second half shows, for every
obligation with hypotheses, a state and operands that meet all of them. -/

namespace Sys2Proof.Tests

open Sys2Proof Sys2Proof.Machine

/-! ## WellFormed: one ill-formed term per check -/

/-- 30_encoding.md R80: the end bit of a frame is 1. -/
theorem test_wf_stop_bit :
    (Instr.cmd1 0x00).wellFormed = false ∧ (Instr.cmd16 0x02).wellFormed = false ∧
    (Instr.cmd17 0 0xFE).wellFormed = false ∧ (Instr.cmd55 0x00).wellFormed = false ∧
    (Instr.acmd41Hcs 0x00).wellFormed = false ∧ (Instr.acmd41Zero 0x00).wellFormed = false ∧
    (Instr.cmd58 0x00).wellFormed = false ∧ (Instr.cmd1 0x01).wellFormed = true := by decide

/-- 10_state.md R25: `A_OFFSET` is 0 to 512. -/
theorem test_wf_offset :
    (Instr.readp 0 513 0 true 0).wellFormed = false ∧
    (Instr.readp 0 512 0 true 0).wellFormed = true := by decide

/-- 10_state.md R25: `A_COUNT` is 0 to 512. -/
theorem test_wf_count :
    (Instr.readp 0 0 513 true 0).wellFormed = false ∧
    (Instr.readp 0 0 512 true 0).wellFormed = true := by decide

/-! ## Decoding: words written out from 30_encoding.md R85, R96, R100 -/

theorem test_decode_cmd0 : decodeWord .sdcmd48 [0x40, 0, 0, 0, 0, 0x95] = .ok .cmd0 := by decide

theorem test_decode_cmd1 : decodeWord .sdcmd48 [0x41, 0, 0, 0, 0, 0x01] = .ok (.cmd1 0x01) := by
  decide

theorem test_decode_cmd8 : decodeWord .sdcmd48 [0x48, 0, 0, 0x01, 0xAA, 0x87] = .ok .cmd8 := by
  decide

theorem test_decode_cmd16 :
    decodeWord .sdcmd48 [0x50, 0, 0, 0x02, 0x00, 0x01] = .ok (.cmd16 0x01) := by decide

theorem test_decode_cmd17 :
    decodeWord .sdcmd48 [0x51, 0x12, 0x34, 0x56, 0x78, 0x01] = .ok (.cmd17 0x12345678 0x01) := by
  decide

theorem test_decode_cmd55 :
    decodeWord .sdcmd48 [0x77, 0, 0, 0, 0, 0x01] = .ok (.cmd55 0x01) := by decide

theorem test_decode_acmd41Hcs :
    decodeWord .sdcmd48 [0x69, 0x40, 0, 0, 0, 0x01] = .ok (.acmd41Hcs 0x01) := by decide

theorem test_decode_acmd41Zero :
    decodeWord .sdcmd48 [0x69, 0, 0, 0, 0, 0x01] = .ok (.acmd41Zero 0x01) := by decide

theorem test_decode_cmd58 :
    decodeWord .sdcmd48 [0x7A, 0, 0, 0, 0, 0x01] = .ok (.cmd58 0x01) := by decide

theorem test_decode_dacWrite : decodeWord .dac16 [0x39, 0x23] = .ok (.dacWrite 0x3 0x923) := by
  decide

theorem test_decode_init : decodeWord .hostop [0x01] = .ok .init := by decide

/-- 95_test_vectors.md P1, second line. -/
theorem test_decode_readp :
    decodeWord .hostop [0x02, 0, 0, 0, 3, 0, 4, 0, 2, 1, 0, 0, 0x10, 0] =
      .ok (.readp 3 4 2 true 0x1000) := by decide

theorem test_decode_writepInit :
    decodeWord .hostop [0x03, 0, 0, 0, 5] = .ok (.writepInit 5) := by decide

theorem test_decode_writepAppend :
    decodeWord .hostop [0x04, 0, 0, 0x10, 0, 0, 0, 0, 16] = .ok (.writepAppend 0x1000 16) := by
  decide

theorem test_decode_writepFinal : decodeWord .hostop [0x05] = .ok .writepFinal := by decide

/-- 95_test_vectors.md P4, first line. -/
theorem test_decode_loadfmt :
    decodeWord .hostop [0x06, 0x10, 0, 0, 0x56, 0x22, 0, 0, 0, 8] =
      .ok (.loadfmt 16 22050 8) := by decide

theorem test_decode_play : decodeWord .hostop [0x07] = .ok .play := by decide

/-- R85: CMD0 with another CRC, and CMD41 with another argument, are no frames of the block. -/
theorem test_decode_refuses_frames :
    decodeWord .sdcmd48 [0x40, 0, 0, 0, 0, 0x01] = .error .unknownFrame ∧
    decodeWord .sdcmd48 [0x69, 0x10, 0, 0, 0, 0x01] = .error .unknownFrame ∧
    decodeWord .sdcmd48 [0x58, 0, 0, 0, 0, 0x01] = .error .unknownFrame ∧
    decodeWord .sdcmd48 [0x40, 0, 0, 0, 0] = .error .truncated := by decide

/-- R101, and the operand layout of log 7. -/
theorem test_decode_refuses_host :
    decodeWord .hostop [0x00] = .error (.reservedOp 0x00) ∧
    decodeWord .hostop [0x08] = .error (.reservedOp 0x08) ∧
    decodeWord .hostop [0xFF] = .error (.reservedOp 0xFF) ∧
    decodeWord .hostop [0x01, 0x01] = .error .trailing ∧
    decodeWord .hostop [0x02, 0, 0, 0, 3, 4, 4, 0, 2, 1, 0, 0, 0x10, 0] = .error .operandBits := by
  decide

/-- A table word: 48 bits from bit 47 down, 16 bits from bit 15 down, a host code in bits 7 to 0. -/
theorem test_table_words :
    decodeTableWord 48 0x48000001AA87 = some .cmd8 ∧
    decodeTableWord 16 0x3923 = some (.dacWrite 0x3 0x923) ∧
    decodeTableWord 8 0x06 = some (.loadfmt 0 0 0) ∧
    decodeTableWord 8 0x09 = none := by decide

/-! ## Small states -/

/-- A small buffer size, as the PLAY vectors have it. -/
def small : Params := { Params.default with bufSize := 4 }

/-- The state after reset with a host program. -/
def withProgram (lines : List HostLine) : State :=
  { State.reset with env := { State.reset.env with program := lines } }

/-- CTL at a point of an operation, and the answers the card has ready. -/
def ctlAt (op : HostOp) (k : Kont) (card : List Byte) : State :=
  { State.reset with busy := true, op := some op, k := k, env := { State.reset.env with card := card } }

/-- PLAY's loop with the timer armed: 16-bit format, size 8, both buffers filled (95_test_vectors.md P4). -/
def playing (k : Kont) (a : Agent) : State :=
  { State.reset with
    cfg := small, busy := true, op := some .play, k := k, timerArmed := true
    fmt := { bps := 16, rate := 22050, size := 8, valid := false }
    fifo :=
      { bufA := [(0, 0x00), (1, 0x00), (2, 0x34), (3, 0x12)],
        bufB := [(0, 0xFF), (1, 0xFF), (2, 0x00), (3, 0x80)],
        lenA := 4, lenB := 4, act := .bufA, cur := 0, endp := 4, status := 0b00, played := 0 }
    env := { State.reset.env with sched := [a] } }

/-- The same in 8-bit format. -/
def playing8 (k : Kont) (a : Agent) : State :=
  { playing k a with fmt := { bps := 8, rate := 8000, size := 8, valid := false } }

/-- Buffer A played to its end: the next tick swaps (95_test_vectors.md T9). -/
def exhausted (s : State) : State := { s with fifo := { s.fifo with cur := 4, played := 4 } }

/-- A tick's state with other bytes in buffer A (95_test_vectors.md T1 to T8). -/
def tickOf (bps : Byte) (bytes : List Byte) : State :=
  { playing .loopPlayed .emt with
    fmt := { bps := bps, rate := 8000, size := 100, valid := false }
    fifo :=
      { State.reset.fifo with
        bufA := Memory.writeFrom [] 0 bytes, lenA := bytes.length, endp := bytes.length } }

/-- The step answers a next state with the property. -/
def nextHas (s : State) (p : State → Bool) : Bool :=
  match step s with
  | .next t => p t
  | _ => false

/-- The running of an instruction answers a next state with the property. -/
def execHas (i : Instr) (s : State) (p : State → Bool) : Bool :=
  match exec i s with
  | .next t => p t
  | _ => false

/-- The words of the opcode table placed by `withFetchWord` are what the next step runs. -/
def runsWord (nbits w : Nat) (p : State → Bool) : Bool := nextHas (State.reset.withFetchWord nbits w) p

/-! ## Placed words -/

theorem test_word_cmd17_runs :
    runsWord 48 0x510000060001 (fun t =>
      decide (t.k = .dummy1 [0x51, 0, 0, 0x06, 0, 0x01] .solo ∧ t.hist = [.csDeassert])) = true := by
  decide

theorem test_word_dac_runs :
    runsWord 16 0x5ABC (fun t => decide (t.hist = [.dacFrame 0x5ABC] ∧ t.dac.sck = false)) = true := by
  decide

theorem test_word_play_runs :
    runsWord 8 0x07 (fun t => decide (t.k = .start .play ∧ t.hist = [.issue 0x07 []])) = true := by
  decide

/-! ## U1: the framer and INIT -/

/-- 40_framer_and_init.md R121: the bracket's four actions, in order. -/
theorem test_bracket_actions :
    nextHas (ctlAt .init (.send frameCmd0 .goIdle) []) (fun t => decide (t.hist = [.csDeassert])) = true ∧
    nextHas (ctlAt .init (.dummy1 frameCmd0 .goIdle) [0x12])
      (fun t => decide (t.hist = [.busX .deasserted 0xFF 0x12])) = true ∧
    nextHas (ctlAt .init (.select frameCmd0 .goIdle) [])
      (fun t => decide (t.hist = [.csAssert] ∧ t.sdCs = .asserted)) = true := by decide

/-- The frame bytes go out in order: CMD0's first byte is 0x40 and its last 0x95 (R150). -/
theorem test_transmit_frame_bytes :
    nextHas (ctlAt .init (.transmit frameCmd0 .goIdle) [0x12])
      (fun t => decide (t.hist = [.busX .deasserted 0x40 0x12])) = true ∧
    nextHas (ctlAt .init (.transmit [0x95] .goIdle) [0x12])
      (fun t => decide (t.hist = [.busX .deasserted 0x95 0x12] ∧ t.k = .poll 10 .goIdle)) = true := by
  decide

/-- 95_test_vectors.md F2, F4, F5: 0xFF keeps polling, the last receive of the budget ends the poll, and 0x7F
stops it. -/
theorem test_poll_stops :
    nextHas (ctlAt .init (.poll 10 .goIdle) [0xFF]) (fun t => decide (t.k = .poll 9 .goIdle)) = true ∧
    nextHas (ctlAt .init (.poll 1 .goIdle) [0xFF])
      (fun t => decide (t.k = .releaseDesel (.init 0x0))) = true ∧
    nextHas (ctlAt .init (.poll 10 .ifCond) [0x7F])
      (fun t => decide (t.k = .send (encode (.cmd55 0x01)) .probePrefix)) = true := by decide

/-- 95_test_vectors.md V6: CMD0 answered 0x00 ends INIT; 0x01 sends CMD8 (R131). -/
theorem test_go_idle_needs_01 :
    nextHas (ctlAt .init (.poll 10 .goIdle) [0x00])
      (fun t => decide (t.k = .releaseDesel (.init 0x0))) = true ∧
    nextHas (ctlAt .init (.poll 10 .goIdle) [0x01])
      (fun t => decide (t.k = .send [0x48, 0, 0, 0x01, 0xAA, 0x87] .ifCond)) = true := by decide

/-- 95_test_vectors.md V1 and V7: the echo 01 AA passes, 01 AB does not (R133). -/
theorem test_voltage_echo :
    nextHas (ctlAt .init (.tail .ifCond [0x00, 0x00, 0x01]) [0xAA])
      (fun t => decide (t.k = .send (encode (.cmd55 0x01)) (.hcsPrefix 10000))) = true ∧
    nextHas (ctlAt .init (.tail .ifCond [0x00, 0x00, 0x01]) [0xAB])
      (fun t => decide (t.k = .releaseDesel (.init 0x0))) = true := by decide

/-- 95_test_vectors.md F6 and F7: CMD55 answered 0x05 aborts the A-command, 0x00 sends it (R123). -/
theorem test_app_prefix :
    nextHas (ctlAt .init (.poll 10 (.hcsPrefix 2)) [0x05])
      (fun t => decide (t.k = .send (encode (.cmd55 0x01)) (.hcsPrefix 1))) = true ∧
    nextHas (ctlAt .init (.poll 10 (.hcsPrefix 2)) [0x00])
      (fun t => decide (t.k = .send (encode (.acmd41Hcs 0x01)) (.hcsPoll 2))) = true := by decide

/-- 95_test_vectors.md V8: the last failed attempt ends INIT without CMD58 (R134). -/
theorem test_op_cond_exhausted :
    nextHas (ctlAt .init (.poll 10 (.hcsPoll 1)) [0x01])
      (fun t => decide (t.k = .releaseDesel (.init 0x0))) = true := by decide

/-- 95_test_vectors.md V1, V2: OCR byte 0 of 0xC0 is block-addressed, 0x80 is not (R136). -/
theorem test_ocr_classifies :
    nextHas (ctlAt .init (.tail .ocr [0xC0, 0xFF, 0x80]) [0x00])
      (fun t => decide (t.k = .releaseDesel (.init 0xC))) = true ∧
    nextHas (ctlAt .init (.tail .ocr [0x80, 0xFF, 0x80]) [0x00])
      (fun t => decide (t.k = .releaseDesel (.init 0x4))) = true := by decide

/-- 95_test_vectors.md V4, V9b: a probe of 0x05 makes the card MMC and sends CMD1; 0x00 makes it SD v1 (R140, R141). -/
theorem test_probe_classifies :
    nextHas (ctlAt .init (.poll 10 .probePrefix) [0x05])
      (fun t => decide (t.k = .send [0x41, 0, 0, 0, 0, 0x01] (.legacyPoll 10000 0x1))) = true ∧
    nextHas (ctlAt .init (.poll 10 .probe) [0x00])
      (fun t => decide (t.k = .send (encode (.cmd55 0x01)) (.legacyPrefix 10000))) = true := by decide

/-- 95_test_vectors.md V9a: CMD16 answered 0x04 empties the classification (R142). -/
theorem test_set_blocklen_fails :
    nextHas (ctlAt .init (.poll 10 (.setBlocklen 0x2)) [0x04])
      (fun t => decide (t.k = .releaseDesel (.init 0x0))) = true ∧
    nextHas (ctlAt .init (.poll 10 (.setBlocklen 0x2)) [0x00])
      (fun t => decide (t.k = .releaseDesel (.init 0x2))) = true := by decide

/-- R143, 95_test_vectors.md V9c: `CT` keeps its value through the release's deselect; INIT's last step writes it with
the result. -/
theorem test_init_end :
    nextHas { ctlAt .init (.releaseDesel (.init 0x0)) [] with ct := 0xC }
      (fun t => decide (t.ct = 0xC ∧ t.sdCs = .deasserted ∧ t.busy = true)) = true ∧
    nextHas { ctlAt .init (.releaseDummy (.init 0x0)) [0x12] with ct := 0xC }
      (fun t => decide (t.ct = 0x0 ∧ t.result = 0x10 ∧ t.busy = false ∧ t.op = none ∧
        t.hist = [.busX .deasserted 0xFF 0x12, .done (some .init) 0x10])) = true := by decide

/-! ## U2: READP -/

/-- READP's first line on a card of some type. -/
def readpStart (ct : BitVec 4) (sector : Word) (offset count : BitVec 10) : State :=
  { ctlAt .readp (.start .readp) [] with
    ct := ct
    latch :=
      { State.reset.latch with
        sector := sector, offset := offset, count := count, destEn := true, dest := 0xFFFFFFFF } }

/-- 95_test_vectors.md V18, V19: the two faults, before any bus action. -/
theorem test_readp_faults :
    nextHas (readpStart 0x0 3 4 2) (fun t => decide (t.fault = [.readBeforeInit] ∧ t.hist = [])) = true ∧
    nextHas (readpStart 0x2 3 500 13) (fun t => decide (t.fault = [.readRange] ∧ t.hist = [])) = true := by
  decide

/-- 95_test_vectors.md V11, V20: unscaled on a block-addressed card; 0x00800001 wraps to 0x200 on another. -/
theorem test_readp_scales :
    nextHas (readpStart 0xC 3 0 512)
      (fun t => decide (t.k = .send [0x51, 0, 0, 0, 3, 0x01] .readBlock)) = true ∧
    nextHas (readpStart 0x2 0x00800001 0 1)
      (fun t => decide (t.k = .send [0x51, 0, 0, 0x02, 0, 0x01] .readBlock)) = true := by decide

/-- 95_test_vectors.md V12, V13: an R1 of 0x04 is a rejection, an exhausted poll a timeout. -/
theorem test_cmd17_failures :
    nextHas (ctlAt .readp (.poll 10 .readBlock) [0x04])
      (fun t => decide (t.k = .releaseDesel (.readp 0x11))) = true ∧
    nextHas (ctlAt .readp (.poll 1 .readBlock) [0xFF])
      (fun t => decide (t.k = .releaseDesel (.readp 0x12))) = true := by decide

/-- 95_test_vectors.md V14, V15, V22: timeout, protocol error, and the token on the last attempt. -/
theorem test_token_poll :
    nextHas (ctlAt .readp (.token 1) [0xFF]) (fun t => decide (t.k = .releaseDesel (.readp 0x13))) = true ∧
    nextHas (ctlAt .readp (.token 5) [0x0B]) (fun t => decide (t.k = .releaseDesel (.readp 0x14))) = true ∧
    nextHas (ctlAt .readp (.token 1) [0xFE]) (fun t => decide (t.k = .payload 0)) = true := by decide

/-- R175: receive 5 of offset 4 and count 2 goes to `A_DEST + 1`, which wraps to 0; receive 6 is discarded. -/
theorem test_payload_copies :
    nextHas { readpStart 0x2 3 4 2 with k := .payload 5, env := { State.reset.env with card := [0xAD] } }
      (fun t => decide (t.mem = [(0, 0xAD)] ∧ t.k = .payload 6)) = true ∧
    nextHas { readpStart 0x2 3 4 2 with k := .payload 6, env := { State.reset.env with card := [0xAD] } }
      (fun t => decide (t.mem = [])) = true := by decide

/-- R175: receive 513 is the last. -/
theorem test_payload_ends :
    nextHas (ctlAt .readp (.payload 512) [0x12]) (fun t => decide (t.k = .payload 513)) = true ∧
    nextHas (ctlAt .readp (.payload 513) [0x12])
      (fun t => decide (t.k = .releaseDesel (.readp 0x00))) = true := by decide

/-- 95_test_vectors.md X1 to X3: each write operation refuses at its first step. -/
theorem test_write_operations_refuse :
    nextHas (ctlAt .writepInit (.start .writepInit) []) (fun t => decide (t.refused = some .writeUnspecified)) = true ∧
    nextHas (ctlAt .writepAppend (.start .writepAppend) []) (fun t => decide (t.refused = some .writeUnspecified)) = true ∧
    nextHas (ctlAt .writepFinal (.start .writepFinal) []) (fun t => decide (t.refused = some .writeUnspecified)) = true := by
  decide

/-! ## HOST -/

/-- 95_test_vectors.md X4 to X6. -/
theorem test_host_refusals :
    nextHas (withProgram [.issue [0x08]]) (fun t => decide (t.refused = some .reservedOp ∧ t.hist = [.issue 0x08 []])) = true ∧
    nextHas (withProgram [.issue [0x00]]) (fun t => decide (t.refused = some .reservedOp)) = true ∧
    nextHas (withProgram [.read 0x10]) (fun t => decide (t.refused = some .reservedReg ∧ t.hist = [])) = true := by
  decide

/-- 10_state.md R37: `RESULT` is register 0x01 and reads 0xFF after reset (R24). -/
theorem test_host_reads_result :
    nextHas (withProgram [.read 0x01]) (fun t => decide (t.env.hostData = 0xFF ∧ t.env.program = [])) = true := by
  decide

/-- 60_exceptions.md R291, R301: HOST is stuck while `BUSY = 1`, with a register to read as with a line to issue. -/
theorem test_host_waits_for_busy :
    hasStep { withProgram [.read 0x0F] with busy := true } .host = false ∧
    hasStep { withProgram [.read 0x10] with busy := true } .host = false ∧
    hasStep { withProgram [.issue [0x01]] with busy := true } .host = false := by decide

/-- 60_exceptions.md R300: READP's issue writes the five latches. -/
theorem test_issue_latches :
    execHas (.readp 3 4 2 true 0x1000) State.reset (fun t => decide (t.latch.sector = 3 ∧ t.latch.offset = 4 ∧
      t.latch.count = 2 ∧ t.latch.destEn = true ∧ t.latch.dest = 0x1000 ∧ t.busy = true ∧ t.op = some .readp)) = true := by
  decide

/-! ## U3: LOADFMT and PLAY -/

/-- LOADFMT's first line. -/
def loadfmtStart (bps : Byte) (rate size : Word) : State :=
  { ctlAt .loadfmt (.start .loadfmt) [] with
    latch := { State.reset.latch with bps := bps, rate := rate, size := size } }

/-- 95_test_vectors.md L1, L2, L4: admitted. -/
theorem test_loadfmt_admits :
    nextHas (loadfmtStart 8 8000 4) (fun t => decide (t.fmt = ⟨8, 8000, 4, true⟩ ∧ t.result = 0x00)) = true ∧
    nextHas (loadfmtStart 16 22050 1000) (fun t => decide (t.fmt.valid = true)) = true ∧
    nextHas (loadfmtStart 8 44100 0) (fun t => decide (t.fmt.valid = true)) = true := by decide

/-- 95_test_vectors.md L3, L5, L6, L7: refused, the format unchanged. -/
theorem test_loadfmt_refuses :
    [loadfmtStart 16 22051 1000, loadfmtStart 8 44101 0, loadfmtStart 12 8000 100, loadfmtStart 8 0 100].all
      (fun s => nextHas s (fun t =>
        decide (t.refused = some .formatUnmodelled ∧ t.fmt = State.reset.fmt))) = true := by decide

/-- 95_test_vectors.md Y1. -/
theorem test_play_without_format :
    nextHas (ctlAt .play (.start .play) []) (fun t =>
      decide (t.result = 0x30 ∧ t.busy = false ∧ t.hist = [.done (some .play) 0x30])) = true := by decide

/-- 95_test_vectors.md Y2, Y4: no byte for A ends PLAY; a full A goes on to B. -/
theorem test_prime_a :
    nextHas { ctlAt .play .primeA [] with cfg := small, env := { State.reset.env with file := [.count []] } }
      (fun t => decide (t.result = 0x01 ∧ t.fifo.lenA = 0 ∧ t.timerArmed = false)) = true ∧
    nextHas { ctlAt .play .primeA [] with cfg := small, env := { State.reset.env with file := [.count [0x00, 0x80, 0xFF, 0x40]] } }
      (fun t => decide (t.k = .primeB ∧ t.fifo.lenA = 4 ∧ t.fifo.bufA.read 1 = some 0x80)) = true := by
  decide

/-- 42_fifo_refill.md R214: on `Filling` with A active the target is B. -/
theorem test_refill_target :
    nextHas { playing .loopStatus .ctl with fifo := { (playing .loopStatus .ctl).fifo with status := 0b01 } }
      (fun t => decide (t.k = .refill .bufB)) = true ∧
    nextHas (playing .loopStatus .ctl) (fun t => decide (t.k = .loopPlayed)) = true := by decide

/-! ## U4: the tick -/

/-- 43_emitter.md R259, the whole table (95_test_vectors.md T1 to T8). -/
theorem test_tick_table :
    [(tickOf 16 [0x34, 0x12], 0x3923#16), (tickOf 16 [0x00, 0x80], 0x3000#16),
      (tickOf 16 [0xFF, 0x7F], 0x3FFF#16), (tickOf 16 [0xFF, 0xFF], 0x37FF#16),
      (tickOf 16 [0x00, 0x00], 0x3800#16), (tickOf 8 [0x80], 0x3800#16), (tickOf 8 [0xFF], 0x3FF0#16),
      (tickOf 8 [0x00], 0x3000#16)].all
      (fun x => nextHas x.1 (fun t => decide (t.hist = [.dacFrame x.2]))) = true := by decide

/-- 95_test_vectors.md T9: the swap and the sample in one tick. -/
theorem test_tick_swaps :
    nextHas (exhausted (playing .loopPlayed .emt)) (fun t => decide (t.fifo.act = .bufB ∧ t.fifo.endp = 4 ∧
      t.fifo.status = 0b01 ∧ t.fifo.cur = 2 ∧ t.fifo.played = 6 ∧ t.hist = [.dacFrame 0x37FF])) = true := by
  decide

/-- 95_test_vectors.md T11, T12, T13: underrun, empty range, split sample, nothing else written. -/
theorem test_tick_faults :
    let s := exhausted (playing .loopPlayed .emt)
    nextHas { s with fifo := { s.fifo with status := 0b01 } }
      (fun t => decide (t.fault = [.underrun] ∧ t.fifo.cur = 4 ∧ t.hist = [])) = true ∧
    nextHas { s with fifo := { s.fifo with lenB := 0 } }
      (fun t => decide (t.fault = [.emptyRange] ∧ t.fifo.act = .bufA ∧ t.fifo.status = 0b00)) = true ∧
    nextHas { s with fifo := { s.fifo with cur := 2, endp := 3, lenA := 3, played := 2 } }
      (fun t => decide (t.fault = [.splitSample] ∧ t.fifo.played = 2)) = true := by decide

/-- 95_test_vectors.md T15, T16: the last sample may pass the size by one byte; step 0 wins over a fault. -/
theorem test_tick_end :
    nextHas { playing .loopPlayed .emt with
        fmt := { bps := 16, rate := 22050, size := 3, valid := false }
        fifo := { (playing .loopPlayed .emt).fifo with
          bufA := [(0, 0x00), (1, 0x00), (2, 0x00), (3, 0x00)], cur := 2, played := 2 } }
      (fun t => decide (t.hist = [.dacFrame 0x3800] ∧ t.fifo.played = 4)) = true ∧
    nextHas { playing .loopPlayed .emt with
        fifo := { (playing .loopPlayed .emt).fifo with cur := 4, played := 8, status := 0b01 } }
      (fun t => decide (t.hist = [] ∧ t.fault = [] ∧ t.fifo.cur = 4)) = true := by decide

/-- 95_test_vectors.md 2.6, the illustration of a lossy map: T1's frame becomes 0x3933. -/
theorem test_lossy_map :
    frameWord { Params.default with hiBitMap := #v[1, 1, 2, 3, 4, 5, 6, 7] } 0x9234 = 0x3933 ∧
    Params.lossyMap #v[1, 1, 2, 3, 4, 5, 6, 7] := by
  decide

/-- 43_emitter.md R252: a constant map is of neither kind, nor is one that repeats no bit or carries bit 0 twice. -/
theorem test_map_kinds :
    Params.admittedMap Params.fullMap ∧ ¬ Params.admittedMap #v[3, 3, 3, 3, 3, 3, 3, 3] ∧
    ¬ Params.admittedMap #v[7, 6, 5, 4, 3, 2, 1, 0] ∧
    ¬ Params.admittedMap #v[0, 0, 2, 3, 4, 5, 6, 7] := by decide

/-- 95_test_vectors.md V5, no card: `cs- FF>xx*10 BR [CMD0 0x00000000] FF>FF*10 REL`, and no classification. -/
theorem test_no_card_transcript :
    refInit Params.default (List.replicate 29 0xFF) =
      some (0x0,
        .csDeassert :: List.replicate 10 (.busX .deasserted 0xFF 0xFF) ++
          [.csDeassert, .busX .deasserted 0xFF 0xFF, .csAssert, .busX .asserted 0xFF 0xFF,
            .busX .asserted 0x40 0xFF, .busX .asserted 0x00 0xFF, .busX .asserted 0x00 0xFF,
            .busX .asserted 0x00 0xFF, .busX .asserted 0x00 0xFF, .busX .asserted 0x95 0xFF] ++
          List.replicate 10 (.busX .asserted 0xFF 0xFF) ++
          [.csDeassert, .busX .deasserted 0xFF 0xFF],
        []) := by decide

/-! ## The end of a run -/

/-- The model's choice (log 22): from reset with an empty host program no step happens and no run has ended. -/
theorem test_empty_program_has_not_ended :
    step State.reset = .fault .nothingLeft ∧ ¬ RunEnded State.reset := ⟨rfl, by decide⟩

/-! ## Witnesses: for every obligation with hypotheses, a state and operands that meet all of them -/

/-- A state whose step has a property has a next state. -/
theorem next_of_nextHas {s : State} {p : State → Bool} (h : nextHas s p = true) :
    ∃ t, step s = .next t ∧ p t = true := by
  unfold nextHas at h
  split at h
  next t ht => exact ⟨t, ht, h⟩
  next => cases h

/-- An instruction whose running has a property has a next state. -/
theorem next_of_execHas {i : Instr} {s : State} {p : State → Bool} (h : execHas i s p = true) :
    ∃ t, exec i s = .next t ∧ p t = true := by
  unfold execHas at h
  split at h
  next t ht => exact ⟨t, ht, h⟩
  next => cases h

theorem ready_reset : Ready State.reset := by decide

/-- The state after reset with a card type, a format and the answers of CARD and FILE ready. -/
def readyWith (ct : BitVec 4) (valid : Bool) (card : List Byte) (file : List FileAnswer) : State :=
  { State.reset with
    cfg := small, ct := ct, fmt := { bps := 8, rate := 8000, size := 4, valid := valid }
    env := { State.reset.env with card := card, file := file } }

theorem ready_readyWith (ct : BitVec 4) (valid : Bool) (card : List Byte) (file : List FileAnswer) :
    Ready (readyWith ct valid card file) :=
  ⟨⟨rfl, rfl⟩, rfl, rfl, rfl⟩

theorem ctlAlone_ctlAt (op : HostOp) (k : Kont) (card : List Byte) : CtlAlone (ctlAt op k card) :=
  ⟨⟨rfl, rfl⟩, rfl, rfl⟩

theorem filled_playing (k : Kont) (a : Agent) (b : BufId) : Filled (playing k a).fifo b := by
  intro i hi
  have h : i < 4 := by cases b <;> exact hi
  cases b <;> interval_cases i <;> simp [playing, Fifo.buf, Memory.read]

theorem stream_playing (a : Agent) : StreamInv (playing .loopPlayed a) := by
  refine ⟨⟨⟨rfl, rfl, by simp [playing, kontRet]⟩, rfl⟩, ?_, ?_, ?_, ?_, .inl rfl, fun _ => ⟨rfl, ?_⟩,
    filled_playing _ _ _, filled_playing _ _ _⟩
  all_goals cases a <;> decide

theorem witness_decoded_bytes : decodeWord .hostop [0x07] = .ok .play := test_decode_play

theorem witness_called_frames :
    small.crcPlaceholder.getLsbD 0 = true ∧ calledFrame small frameCmd0 .goIdle ∧
    calledFrame small (frameCmd17 small 0x600) .readBlock :=
  ⟨by decide, rfl, ⟨0x600, rfl⟩⟩

theorem witness_reserved_host_code :
    NoFault (withProgram [.issue [0x00, 0x12]]) ∧
    mover (withProgram [.issue [0x00, 0x12]]) = some .host ∧
    mover (withProgram [.issue [0x08]]) = some .host ∧ 8 ≤ (0x08#8 : Byte).toNat := by decide

theorem witness_step_runs :
    (NoFault (withProgram [.issue [0x07]]) ∧ mover (withProgram [.issue [0x07]]) = some .host ∧
      decodeWord .hostop [0x07] = .ok .play) ∧
    (NoFault (ctlAt .init (.send frameCmd0 .goIdle) []) ∧
      mover (ctlAt .init (.send frameCmd0 .goIdle) []) = some .ctl ∧
      decodeWord .sdcmd48 frameCmd0 = .ok .cmd0) ∧
    (NoFault (tickOf 16 [0x34, 0x12]) ∧ mover (tickOf 16 [0x34, 0x12]) = some .emt ∧
      tick (tickOf 16 [0x34, 0x12]) = .emits 0x3923 ∧
      decodeWord .dac16 (bytesOfHalf 0x3923) = .ok (.dacWrite 0x3 0x923)) := by decide

theorem witness_steps_without_fetch :
    (NoFault (withProgram [.read 0x01]) ∧ mover (withProgram [.read 0x01]) = some .host) ∧
    (mover (ctlAt .play (.start .play) []) = some .ctl ∧
      ∀ frame ret, (ctlAt .play (.start .play) []).k ≠ .send frame ret) ∧
    (mover { tickOf 8 [0x80] with fmt := State.reset.fmt } = some .emt ∧
      tick { tickOf 8 [0x80] with fmt := State.reset.fmt } = .ack) ∧
    (mover (tickOf 16 [0x34]) = some .emt ∧ tick (tickOf 16 [0x34]) = .raises .splitSample) :=
  ⟨by decide, ⟨by decide, by intro f r; simp [ctlAt]⟩, by decide, by decide⟩

theorem witness_enabled_agents :
    hasStep (withProgram [.issue [0x01]]) .host = true ∧
    hasStep (ctlAt .play (.start .play) []) .ctl = true ∧
    hasStep (playing .loopPlayed .ctl) .emt = true := by decide

/-- HOST's next line waits for `BUSY`, and nothing else moves. -/
def hostHeld : State := { withProgram [.issue [0x01]] with busy := true }

/-- `UNDERRUN_MODE = Hold` with CTL idle: the tick is held (70_reset_and_hazards.md R328). -/
def tickHeldState : State :=
  { exhausted (playing .idle .emt) with
    cfg := { small with underrunMode := .hold }
    fifo := { (exhausted (playing .idle .emt)).fifo with status := 0b01 } }

/-- A receive that must go where `DestOK` is false. -/
def forbidden : State :=
  { readpStart 0x2 3 4 2 with k := .payload 5, cfg := { Params.default with destOk := [] } }

theorem witness_where_it_stops :
    ({ State.reset with fault := [.underrun] } : State).fault ≠ [] ∧
    ({ State.reset with refused := some .reservedOp } : State).refused ≠ none ∧
    [State.reset, hostHeld, tickHeldState, forbidden].all
      (fun s => decide (NoFault s) && !hasStep s .host && !hasStep s .ctl && !hasStep s .emt) = true := by
  decide

theorem witness_step_exists :
    ∃ t, step (withProgram [.issue [0x01]]) = .next t ∧ decide (t.k = .start .init) = true :=
  next_of_nextHas (by decide)

theorem witness_frames_begin :
    (ctlAt .init (.send frameCmd0 .goIdle) []).k = .send frameCmd0 .goIdle := rfl

theorem witness_where_exec_stops :
    (NoFault (withProgram [.issue [0x01]]) ∧ hasStep (withProgram [.issue [0x01]]) .host = true ∧
      hasStep hostHeld .host = false) ∧
    Instr.play.port = .hostop ∧ NoFault hostHeld ∧ hostHeld.busy = true ∧ Instr.cmd0.port = .sdcmd48 ∧
    (∀ called ret, State.reset.k ≠ .send called ret) :=
  ⟨by decide, rfl, ⟨rfl, rfl⟩, rfl, rfl, by intro c r; simp [State.reset]⟩

/-- A card that answers R1 0x01 to the second poll (40_framer_and_init.md R150's example). -/
theorem witness_send_cmd :
    let s := ctlAt .init (.send frameCmd0 .goIdle) [1, 2, 3, 4, 5, 6, 7, 8, 0xFF, 0x01, 0x55]
    CtlAlone s ∧ s.k = .send frameCmd0 .goIdle ∧ refSend s.cfg s.env.card = some (0x01, [0x55]) :=
  ⟨ctlAlone_ctlAt _ _ _, rfl, by decide⟩

theorem witness_frames_kept :
    FrameInv (ctlAt .init (.send frameCmd0 .goIdle) []) ∧
    ∃ t, step (ctlAt .init (.send frameCmd0 .goIdle) []) = .next t ∧
      decide (t.k = .dummy1 frameCmd0 .goIdle) = true :=
  ⟨⟨⟨rfl, rfl, by simp [ctlAt, kontRet]⟩, rfl⟩, next_of_nextHas (by decide)⟩

theorem witness_dac_frame : (State.reset.dac).sck = false := rfl

/-- Both kinds of map of 43_emitter.md R252. -/
theorem witness_frame_word :
    Params.default.hiBitMap = Params.fullMap ∧ Params.lossyMap #v[1, 1, 2, 3, 4, 5, 6, 7] := by decide

theorem witness_sign_flip : (Params.default.hiBitMap[7]).val = 7 := by decide

theorem witness_host_issue : NoFault State.reset ∧ State.reset.busy = false := by decide

theorem witness_register_reads :
    (NoFault { withProgram [.read 0x01] with busy := true } ∧
      ({ withProgram [.read 0x01] with busy := true } : State).env.program = .read 0x01 :: []) ∧
    NoFault (withProgram [.read 0x0F]) ∧ mover (withProgram [.read 0x0F]) = some .host ∧
    (registerTable (withProgram [.read 0x0F]))[(0x0F#8 : Byte).toNat]? = some 0#32 ∧
    mover (withProgram [.read 0x10]) = some .host ∧ 15 < (0x10#8 : Byte).toNat := by decide

theorem witness_exec_frame :
    (∃ t, exec .cmd0 (ctlAt .init (.send frameCmd0 .goIdle) []) = .next t ∧ true = true) ∧
    (∃ t, exec (.dacWrite 0x3 0x923) State.reset = .next t ∧ true = true) ∧
    (∃ t, exec .play State.reset = .next t ∧ true = true) :=
  ⟨next_of_execHas (p := fun _ => true) (by decide), next_of_execHas (p := fun _ => true) (by decide),
    next_of_execHas (p := fun _ => true) (by decide)⟩

theorem witness_write_operations : Ready State.reset ∧ Instr.writepFinal = .writepFinal :=
  ⟨ready_reset, rfl⟩

theorem witness_loadfmt_and_play_entry :
    Ready State.reset ∧ State.reset.fmt.valid = false ∧ Ready (readyWith 0x2 true [] []) ∧
    (readyWith 0x2 true [] []).fmt.valid = true :=
  ⟨ready_reset, rfl, ready_readyWith _ _ _ _, rfl⟩

theorem witness_play_primes :
    let s := readyWith 0x0 true [] [.count [0x00, 0x80, 0xFF, 0x40], .count []]
    Ready s ∧ s.fmt.valid = true ∧
    s.env.file = .count [0x00, 0x80, 0xFF, 0x40] :: .count [] :: [] ∧
    ([0x00, 0x80, 0xFF, 0x40] : List Byte).length ≤ s.cfg.bufSize :=
  ⟨ready_readyWith _ _ _ _, rfl, rfl, by decide⟩

theorem witness_play_priming_ends :
    (Ready (readyWith 0x0 true [] [.count []]) ∧
      (readyWith 0x0 true [] [.count []]).env.file = .count [] :: []) ∧
    (Ready (readyWith 0x0 true [] [.error .tokenTimeout]) ∧
      (readyWith 0x0 true [] [.error .tokenTimeout]).env.file = .error .tokenTimeout :: []) ∧
    (Ready (readyWith 0x0 true [] [.count [0x12], .error .cmdRejected]) ∧
      ([0x12] : List Byte).length ≤
        (readyWith 0x0 true [] [.count [0x12], .error .cmdRejected]).cfg.bufSize) :=
  ⟨⟨ready_readyWith _ _ _ _, rfl⟩, ⟨ready_readyWith _ _ _ _, rfl⟩, ⟨ready_readyWith _ _ _ _, by decide⟩⟩

theorem witness_play_ends :
    NoFault (playing .loopPlayed .ctl) ∧ mover (playing .loopPlayed .ctl) = some .ctl ∧
    (playing .loopPlayed .ctl).fifo.played.toNat < (playing .loopPlayed .ctl).fmt.size.toNat ∧
    (let s := { playing .loopPlayed .ctl with fifo := { (playing .loopPlayed .ctl).fifo with played := 8 } }
     mover s = some .ctl ∧ s.fmt.size.toNat ≤ s.fifo.played.toNat) := by decide

/-- A refill in progress: `STATUS = Filling`, FILE's answer ready. -/
def refilling (k : Kont) (file : List FileAnswer) : State :=
  { playing k .ctl with
    fifo := { (playing k .ctl).fifo with status := 0b01 }
    env := { (playing k .ctl).env with file := file } }

theorem witness_refill :
    (NoFault (refilling .loopStatus []) ∧ mover (refilling .loopStatus []) = some .ctl) ∧
    (mover (refilling (.refill .bufB) [.count [0x12]]) = some .ctl ∧
      (refilling (.refill .bufB) [.count [0x12]]).env.file = .count [0x12] :: [] ∧
      ([0x12] : List Byte).length ≤ (refilling (.refill .bufB) [.count [0x12]]).cfg.bufSize) ∧
    mover (refilling .refillReady []) = some .ctl := by decide

theorem witness_refill_failure :
    (NoFault (refilling (.refill .bufB) [.error .respTimeout]) ∧
      mover (refilling (.refill .bufB) [.error .respTimeout]) = some .ctl ∧
      (refilling (.refill .bufB) [.error .respTimeout]).env.file = .error .respTimeout :: []) ∧
    (mover (refilling (.playFail .respTimeout) []) = some .ctl ∧
      (refilling (.playFail .respTimeout) []).k = .playFail .respTimeout) := by decide

/-- 95_test_vectors.md T10. -/
theorem witness_tick_after_end :
    let s := { playing .loopPlayed .emt with fifo := { (playing .loopPlayed .emt).fifo with played := 8 } }
    NoFault s ∧ mover s = some .emt ∧ s.fmt.size.toNat ≤ s.fifo.played.toNat := by decide

theorem witness_tick_plays :
    (let s := playing .loopPlayed .emt
     NoFault s ∧ mover s = some .emt ∧ s.fifo.played.toNat < s.fmt.size.toNat ∧ s.fmt.bps = 16#8 ∧
     s.fifo.cur + 2 ≤ s.fifo.endp ∧ s.fifo.played.toNat + 2 < 2 ^ 32 ∧
     (s.fifo.buf s.fifo.act).read s.fifo.cur = some 0x00 ∧
     (s.fifo.buf s.fifo.act).read (s.fifo.cur + 1) = some 0x00) ∧
    (let s := playing8 .loopPlayed .emt
     NoFault s ∧ mover s = some .emt ∧ s.fifo.played.toNat < s.fmt.size.toNat ∧ s.fmt.bps = 8#8 ∧
     s.fifo.cur < s.fifo.endp ∧ (s.fifo.buf s.fifo.act).read s.fifo.cur = some 0x00) := by decide

theorem witness_tick_swaps :
    (let s := exhausted (playing .loopPlayed .emt)
     NoFault s ∧ mover s = some .emt ∧ s.fifo.played.toNat < s.fmt.size.toNat ∧
     s.fifo.endp ≤ s.fifo.cur ∧ s.fifo.status ≠ 0b01#2 ∧ s.fmt.bps = 16#8 ∧
     2 ≤ s.fifo.len s.fifo.act.other ∧ s.fifo.played.toNat + 2 < 2 ^ 32 ∧
     (s.fifo.buf s.fifo.act.other).read 0 = some 0xFF ∧
     (s.fifo.buf s.fifo.act.other).read 1 = some 0xFF) ∧
    (let s := exhausted (playing8 .loopPlayed .emt)
     NoFault s ∧ mover s = some .emt ∧ s.fifo.played.toNat < s.fmt.size.toNat ∧
     s.fifo.endp ≤ s.fifo.cur ∧ s.fifo.status ≠ 0b01#2 ∧ s.fmt.bps = 8#8 ∧
     0 < s.fifo.len s.fifo.act.other ∧ (s.fifo.buf s.fifo.act.other).read 0 = some 0xFF) := by decide

theorem witness_tick_underrun :
    (let s := { exhausted (playing .loopPlayed .emt) with
        fifo := { (exhausted (playing .loopPlayed .emt)).fifo with status := 0b01 } }
     NoFault s ∧ s.fifo.played.toNat < s.fmt.size.toNat ∧ s.fifo.endp ≤ s.fifo.cur ∧
     s.fifo.status = 0b01#2 ∧ s.cfg.underrunMode = .fault ∧ mover s = some .emt) ∧
    (NoFault tickHeldState ∧ tickHeldState.fifo.played.toNat < tickHeldState.fmt.size.toNat ∧
      tickHeldState.fifo.endp ≤ tickHeldState.fifo.cur ∧ tickHeldState.fifo.status = 0b01#2 ∧
      tickHeldState.cfg.underrunMode = .hold) := by decide

theorem witness_tick_empty_range :
    let s := { exhausted (playing .loopPlayed .emt) with
      fifo := { (exhausted (playing .loopPlayed .emt)).fifo with lenB := 0 } }
    NoFault s ∧ mover s = some .emt ∧ s.fifo.played.toNat < s.fmt.size.toNat ∧
    s.fifo.endp ≤ s.fifo.cur ∧ s.fifo.status ≠ 0b01#2 ∧ s.fifo.len s.fifo.act.other = 0 := by decide

/-- 95_test_vectors.md T13 and T17. -/
theorem witness_tick_split_sample :
    (let s := { playing .loopPlayed .emt with
        fifo := { (playing .loopPlayed .emt).fifo with cur := 2, endp := 3, lenA := 3, played := 2 } }
     NoFault s ∧ mover s = some .emt ∧ s.fifo.played.toNat < s.fmt.size.toNat ∧ s.fmt.bps = 16#8 ∧
     s.fifo.endp = s.fifo.cur + 1) ∧
    (let s := { exhausted (playing .loopPlayed .emt) with
        fifo := { (exhausted (playing .loopPlayed .emt)).fifo with lenB := 1 } }
     NoFault s ∧ mover s = some .emt ∧ s.fifo.played.toNat < s.fmt.size.toNat ∧ s.fmt.bps = 16#8 ∧
     s.fifo.endp ≤ s.fifo.cur ∧ s.fifo.status ≠ 0b01#2 ∧ s.fifo.len s.fifo.act.other = 1) := by decide

/-- 95_test_vectors.md T14. -/
theorem witness_tick_counter_wrap :
    (let s := { exhausted (playing .loopPlayed .emt) with
        fmt := { bps := 16, rate := 22050, size := 0xFFFFFFFF, valid := false }
        fifo := { (exhausted (playing .loopPlayed .emt)).fifo with played := 0xFFFFFFFE } }
     NoFault s ∧ mover s = some .emt ∧ s.fmt.bps = 16#8 ∧ s.fmt.size = 0xFFFFFFFF#32 ∧
     s.fifo.played = 0xFFFFFFFE#32 ∧ s.fifo.endp ≤ s.fifo.cur ∧ s.fifo.status ≠ 0b01#2 ∧
     2 ≤ s.fifo.len s.fifo.act.other) ∧
    let s := { playing .loopPlayed .emt with
      fmt := { bps := 16, rate := 22050, size := 0xFFFFFFFF, valid := false }
      fifo := { (playing .loopPlayed .emt).fifo with endp := 2, played := 0xFFFFFFFE } }
    NoFault s ∧ mover s = some .emt ∧ s.fmt.bps = 16#8 ∧ s.fmt.size = 0xFFFFFFFF#32 ∧
    s.fifo.played = 0xFFFFFFFE#32 ∧ s.fifo.cur + 2 ≤ s.fifo.endp := by decide

theorem witness_tick_advances :
    NoFault (playing .loopPlayed .emt) ∧ StreamInv (playing .loopPlayed .emt) ∧
    mover (playing .loopPlayed .emt) = some .emt ∧
    (playing .loopPlayed .emt).fifo.played.toNat < (playing .loopPlayed .emt).fmt.size.toNat :=
  ⟨⟨rfl, rfl⟩, stream_playing _, by decide, by decide⟩

/-- The state before the first receive after the token, with a destination that wraps. -/
def payloadStart : State := { readpStart 0x2 3 510 2 with k := .payload 0 }

theorem witness_payload :
    CtlAlone payloadStart ∧ payloadStart.k = .payload 0 ∧
    payloadStart.latch.offset.toNat + payloadStart.latch.count.toNat ≤ 512 ∧
    payloadStart.latch.destEn = true ∧
    ∀ j, j < payloadStart.latch.count.toNat →
      destOk payloadStart.cfg ((payloadStart.latch.dest + BitVec.ofNat 32 j).toNat) = true := by
  refine ⟨⟨⟨rfl, rfl⟩, rfl, rfl⟩, rfl, by decide, rfl, fun j hj => ?_⟩
  have h : j < 2 := hj
  interval_cases j <;> decide

/-- The launch's `DestOK` allows two bytes at 0x1000. -/
theorem destOk_two_bytes (ct : BitVec 4) (valid : Bool) (card : List Byte) (file : List FileAnswer) :
    ∀ j, j < (2#10).toNat →
      destOk (readyWith ct valid card file).cfg ((0x1000#32 + BitVec.ofNat 32 j).toNat) = true := by
  intro j hj
  have h : j < 2 := hj
  interval_cases j <;> (change destOk small _ = true; decide)

/-- A card that rejects CMD17, and one that sends the token and a payload (95_test_vectors.md V12, V16). -/
theorem witness_readp_runs :
    (let s := readyWith 0x2 false [1, 2, 3, 4, 5, 6, 7, 8, 0x04, 0x55] []
     Ready s ∧ s.ct ≠ 0x0#4 ∧ refSend s.cfg s.env.card = some (0x04, [0x55]) ∧
     refRead s.cfg s.env.card = some (0x11, [], [])) ∧
    (let s := readyWith 0x4 false ([1, 2, 3, 4, 5, 6, 7, 8, 0x00, 0xFE] ++ List.replicate 515 0x12) []
     Ready s ∧ s.ct ≠ 0x0#4 ∧ (4#10).toNat + (2#10).toNat ≤ 512 ∧
     (∀ j, j < (2#10).toNat → destOk s.cfg ((0x1000#32 + BitVec.ofNat 32 j).toNat) = true) ∧
     refSend s.cfg s.env.card = some (0x00, 0xFE :: List.replicate 515 0x12) ∧
     (refRead s.cfg s.env.card).map Prod.fst = some 0x00) :=
  ⟨⟨ready_readyWith _ _ _ _, by decide, by decide, by decide⟩,
    ⟨ready_readyWith _ _ _ _, by decide, by decide, destOk_two_bytes _ _ _ _, by decide +kernel,
      by decide +kernel⟩⟩

theorem witness_readp_ends :
    Ready (readyWith 0x2 false [] []) ∧ (readyWith 0x2 false [] []).ct ≠ 0x0#4 ∧
    (4#10).toNat + (2#10).toNat ≤ 512 ∧
    ∀ j, j < (2#10).toNat →
      destOk (readyWith 0x2 false [] []).cfg ((0x1000#32 + BitVec.ofNat 32 j).toNat) = true :=
  ⟨ready_readyWith _ _ _ _, by decide, by decide, destOk_two_bytes _ _ _ _⟩

theorem witness_forbidden_destination :
    CtlAlone forbidden ∧ forbidden.k = .payload 5 ∧ forbidden.latch.destEn = true ∧
    forbidden.latch.offset.toNat ≤ 5 ∧
    5 < forbidden.latch.offset.toNat + forbidden.latch.count.toNat ∧
    destOk forbidden.cfg ((forbidden.latch.dest + BitVec.ofNat 32 (5 - forbidden.latch.offset.toNat)).toNat) =
      false :=
  ⟨⟨⟨rfl, rfl⟩, rfl, rfl⟩, rfl, rfl, by decide, by decide, by decide⟩

/-- A receive that READP copies, and one it does not. -/
theorem witness_memory_writes :
    (∃ t, step { readpStart 0x2 3 4 2 with k := .payload 5, env := { State.reset.env with card := [0xAD] } } =
      .next t ∧ decide (t.mem = [(0, 0xAD)]) = true) ∧
    (∃ t, step { readpStart 0x2 3 4 2 with k := .payload 6, env := { State.reset.env with card := [0xAD] } } =
      .next t ∧ decide (t.mem = []) = true) :=
  ⟨next_of_nextHas (by decide), next_of_nextHas (by decide)⟩

theorem witness_init_runs :
    let s := { State.reset with env := { State.reset.env with card := List.replicate 29 0xFF } }
    Ready s ∧ ∃ events, refInit s.cfg s.env.card = some (0x0, events, []) :=
  ⟨⟨⟨rfl, rfl⟩, rfl, rfl, rfl⟩, _, test_no_card_transcript⟩

theorem witness_init_ends : Ready State.reset := ready_reset

theorem witness_card_type_write :
    ∃ t, step (ctlAt .init (.releaseDummy (.init 0xC)) [0x12]) = .next t ∧
      decide (t.ct ≠ (ctlAt .init (.releaseDummy (.init 0xC)) [0x12]).ct) = true :=
  next_of_nextHas (by decide)

theorem witness_result_write :
    ∃ t, step (ctlAt .play (.start .play) []) = .next t ∧ decide (t.result = 0x30) = true :=
  next_of_nextHas (by decide)

theorem witness_bus_untouched :
    OperationInv (playing .loopPlayed .emt) ∧ mover (playing .loopPlayed .emt) ≠ some .ctl ∧
    (∃ t, step (playing .loopPlayed .emt) = .next t ∧ decide (t.hist = [.dacFrame 0x3800]) = true) ∧
    OperationInv (playing .loopPlayed .ctl) ∧ (playing .loopPlayed .ctl).op ≠ some .init ∧
    (playing .loopPlayed .ctl).op ≠ some .readp ∧
    (∃ t, step (playing .loopPlayed .ctl) = .next t ∧ decide (t.k = .loopStatus) = true) :=
  ⟨(stream_playing _).1.1, by decide, next_of_nextHas (by decide), (stream_playing _).1.1, by decide,
    by decide, next_of_nextHas (by decide)⟩

theorem witness_single_writer :
    (StreamInv (playing .loopPlayed .emt) ∧ mover (playing .loopPlayed .emt) = some .emt ∧
      ∃ t, step (playing .loopPlayed .emt) = .next t ∧ decide (t.fifo.cur = 2) = true) ∧
    (StreamInv (playing .loopPlayed .ctl) ∧ (playing .loopPlayed .ctl).timerArmed = true ∧
      mover (playing .loopPlayed .ctl) = some .ctl ∧
      ∃ t, step (playing .loopPlayed .ctl) = .next t ∧ decide (t.k = .loopStatus) = true) :=
  ⟨⟨stream_playing _, by decide, next_of_nextHas (by decide)⟩,
    ⟨stream_playing _, rfl, by decide, next_of_nextHas (by decide)⟩⟩

/-- The invariants' hypotheses, met together by states with a next step. -/
theorem witness_invariants :
    (MemoryInv (playing .loopPlayed .emt) ∧ CardTypeInv (playing .loopPlayed .emt) ∧
      BusInv (playing .loopPlayed .emt) ∧ TimerInv (playing .loopPlayed .emt) ∧
      OperationInv (playing .loopPlayed .emt) ∧ StreamInv (playing .loopPlayed .emt)) ∧
    ∃ t, step (playing .loopPlayed .emt) = .next t ∧ decide (t.fifo.played = 2) = true := by
  refine ⟨⟨?_, ⟨?_, ?_⟩, ⟨(stream_playing _).1.1, fun _ => rfl⟩, (stream_playing _).1,
    (stream_playing _).1.1, stream_playing _⟩, next_of_nextHas (by decide)⟩
  · decide
  · decide
  · simp [playing, pendingType, kontRet]

theorem witness_play_ends_when_both_move :
    NoFault (playing .loopPlayed .ctl) ∧ StreamInv (playing .loopPlayed .ctl) ∧
    inPlayLoop (playing .loopPlayed .ctl).k = true :=
  ⟨⟨rfl, rfl⟩, stream_playing _, rfl⟩

end Sys2Proof.Tests
end

section
/-! SUPPORT. The scope statements (00_scope.md): what a step is, by the agent that moves, and what no step changes. -/

namespace Sys2Proof.Machine

/-! ## What each agent fetches -/

/-- A fetched word that decodes runs its instruction. -/
theorem afterFetch_word {p : Port} {bytes : List Byte} {i : Instr} (s : State)
    (hd : decodeWord p bytes = .ok i) : afterFetch (.word p bytes s) = exec i s := by
  simp only [afterFetch, hd]

theorem hostFetch_of_issue {s : State} {bytes : List Byte} {more : List HostLine}
    (hp : s.env.program = .issue bytes :: more) :
    hostFetch s = .word .hostop bytes (popLine s) := by
  simp only [hostFetch, hp]

theorem hostFetch_of_read {s : State} {n : Byte} {more : List HostLine}
    (hp : s.env.program = .read n :: more) :
    hostFetch s = .done (.next (hostRead n (popLine s))) := by
  simp only [hostFetch, hp]

theorem ctlFetch_of_send {s : State} {frame : List Byte} {ret : Ret}
    (hk : s.k = .send frame ret) : ctlFetch s = .word .sdcmd48 frame s := by
  simp only [ctlFetch, hk]

theorem ctlFetch_of_not_send {s : State} (hk : ∀ frame ret, s.k ≠ .send frame ret) :
    ctlFetch s = .done (.next (ctlStep s)) := by
  unfold ctlFetch
  split
  next frame ret hs => exact absurd hs (hk frame ret)
  next => rfl

theorem emtFetch_of_ack {s : State} (ht : tick s = .ack) : emtFetch s = .done (.next s) := by
  simp only [emtFetch, ht]

theorem emtFetch_of_raises {s : State} {kind : FaultKind} (ht : tick s = .raises kind) :
    emtFetch s = .done (.next (raise kind s)) := by
  simp only [emtFetch, ht]

theorem emtFetch_of_emits {s : State} {w : Half} (ht : tick s = .emits w) :
    emtFetch s = .word .dac16 (bytesOfHalf w) (tickCommit s) := by
  simp only [emtFetch, ht]

/-- The first fault: in a state without one, `FAULT` becomes the kind alone (60_exceptions.md R290). -/
theorem raise_of_no_fault {s : State} (kind : FaultKind) (hf : s.fault = []) :
    raise kind s = { s with fault := [kind] } := by
  simp [raise, hf]

/-! ## The step of the agent that moves -/

/-- The agent that moves fetches a word that decodes, and the step runs its instruction. -/
theorem step_of_fetched_word {s s' : State} {a : Agent} {p : Port} {bytes : List Byte} {i : Instr}
    (hs : NoFault s) (hm : mover s = some a)
    (hw : agentFetch (takeTurn s) a = .word p bytes s') (hd : decodeWord p bytes = .ok i) :
    step s = exec i s' := by
  obtain ⟨hf, hr⟩ := hs
  rw [step_of_mover hf hr hm, hw, afterFetch_word s' hd]

/-- The agent that moves fetches no word, and the step is what its fetch came to. -/
theorem step_of_fetched_done {s : State} {a : Agent} {o : Host.Outcome State Fault Refusal}
    (hs : NoFault s) (hm : mover s = some a) (hw : agentFetch (takeTurn s) a = .done o) :
    step s = o := by
  obtain ⟨hf, hr⟩ := hs
  rw [step_of_mover hf hr hm, hw]
  rfl

/-- Settles O6, one clause per agent that can fetch a word. -/
theorem stepRunsTheDecodedInstruction : Obligations.StepRunsTheDecodedInstruction := by
  intro s i hs
  refine ⟨fun bytes more hm hp hd => ?_, fun frame ret hm hk hd => ?_, fun w hm ht hd => ?_⟩
  · exact step_of_fetched_word hs hm (hostFetch_of_issue ((takeTurn_env_program s).trans hp)) hd
  · exact step_of_fetched_word hs hm (ctlFetch_of_send ((takeTurn_k s).trans hk)) hd
  · exact step_of_fetched_word hs hm (emtFetch_of_emits ((tick_takeTurn s).trans ht)) hd

/-- Settles O7, one clause per kind of step that fetches no word. -/
theorem stepsThatFetchNothing : Obligations.StepsThatFetchNothing := by
  intro s hs
  refine ⟨fun n more hm hp => ?_, fun hm hk => ?_, fun hm ht => ?_, fun kind hm ht => ?_⟩
  · exact step_of_fetched_done hs hm (hostFetch_of_read ((takeTurn_env_program s).trans hp))
  · have hk' : ∀ frame ret, (takeTurn s).k ≠ .send frame ret := by rwa [takeTurn_k]
    exact step_of_fetched_done hs hm (ctlFetch_of_not_send hk')
  · exact step_of_fetched_done hs hm (emtFetch_of_ack ((tick_takeTurn s).trans ht))
  · rw [← raise_of_no_fault kind ((takeTurn_fault s).trans hs.1)]
    exact step_of_fetched_done hs hm (emtFetch_of_raises ((tick_takeTurn s).trans ht))

/-! ## What no step changes: the parameters and the history so far -/

/-- `t` has the parameters of `s`, and its history with at most two more events. -/
def GrowsFrom (s t : State) : Prop :=
  t.cfg = s.cfg ∧ ∃ events, t.hist = s.hist ++ events ∧ events.length ≤ 2

section
variable {s t : State}

/-- A step without an event. -/
theorem GrowsFrom.silent (hc : t.cfg = s.cfg) (hh : t.hist = s.hist) : GrowsFrom s t :=
  ⟨hc, [], by simp [hh], by simp⟩

/-- A step with one event. -/
theorem GrowsFrom.one {e : Event} (hc : t.cfg = s.cfg) (hh : t.hist = s.hist ++ [e]) :
    GrowsFrom s t :=
  ⟨hc, [e], hh, by simp⟩

/-- A step with two events. -/
theorem GrowsFrom.two {e e' : Event} (hc : t.cfg = s.cfg) (hh : t.hist = s.hist ++ [e] ++ [e']) :
    GrowsFrom s t :=
  ⟨hc, [e, e'], by simp [hh], by simp⟩

end

/-- Only the parameters and the history of the state before count. -/
theorem GrowsFrom.of_eq {s s' t : State} (h : GrowsFrom s' t) (hc : s'.cfg = s.cfg)
    (hh : s'.hist = s.hist) : GrowsFrom s t := by
  unfold GrowsFrom at h ⊢
  rwa [← hc, ← hh]

/-! ### CTL's steps that branch -/

theorem stepReadpStart_grows (s : State) : GrowsFrom s (stepReadpStart s) := by
  unfold stepReadpStart
  split_ifs <;> exact .silent rfl rfl

theorem stepLoadfmt_grows (s : State) : GrowsFrom s (stepLoadfmt s) := by
  unfold stepLoadfmt
  split_ifs
  · exact .silent rfl rfl
  · exact .silent rfl rfl
  · exact .one rfl rfl

theorem stepPlayStart_grows (s : State) : GrowsFrom s (stepPlayStart s) := by
  unfold stepPlayStart
  split_ifs
  · exact .silent rfl rfl
  · exact .one rfl rfl

theorem stepStart_grows (op : HostOp) (s : State) : GrowsFrom s (stepStart op s) := by
  cases op with
  | init => exact .one rfl rfl
  | readp => exact stepReadpStart_grows s
  | writepInit | writepAppend | writepFinal => exact .silent rfl rfl
  | loadfmt => exact stepLoadfmt_grows s
  | play => exact stepPlayStart_grows s

theorem stepTransmit_grows (rest : List Byte) (ret : Ret) (s : State) :
    GrowsFrom s (stepTransmit rest ret s) := by
  cases rest with
  | nil => exact .silent rfl rfl
  | cons b bs => exact .one rfl rfl

theorem stepPayload_grows (i : Nat) (s : State) : GrowsFrom s (stepPayload i s) := by
  unfold stepPayload
  split_ifs <;> exact .one rfl rfl

/-- The release's dummy receive and Done are the two events. -/
theorem stepOperationEnd_grows (e : EndOf) (s : State) : GrowsFrom s (stepOperationEnd e s) := by
  cases e <;> exact .two rfl rfl

theorem stepPrimeA_grows (s : State) : GrowsFrom s (stepPrimeA s) := by
  unfold stepPrimeA
  split
  next => exact .two rfl rfl
  next =>
    split_ifs
    · exact .two rfl rfl
    · exact .one rfl rfl

theorem stepPrimeB_grows (s : State) : GrowsFrom s (stepPrimeB s) := by
  unfold stepPrimeB
  split
  next => exact .two rfl rfl
  next => exact .one rfl rfl

theorem stepLoopPlayed_grows (s : State) : GrowsFrom s (stepLoopPlayed s) := by
  unfold stepLoopPlayed
  split_ifs
  · exact .two rfl rfl
  · exact .silent rfl rfl

theorem stepLoopStatus_grows (s : State) : GrowsFrom s (stepLoopStatus s) := by
  unfold stepLoopStatus
  split_ifs <;> exact .silent rfl rfl

theorem stepRefill_grows (b : BufId) (s : State) : GrowsFrom s (stepRefill b s) := by
  unfold stepRefill
  split <;> exact .one rfl rfl

/-! ### Every agent's step -/

/-- CTL's step at each of its points: a step without a branch is one action, the others are the lemmas above. -/
theorem ctlStep_grows (s : State) : GrowsFrom s (ctlStep s) := by
  unfold ctlStep
  cases s.k with
  | idle | send | primeSet | refillReady => exact .silent rfl rfl
  | clocks | dummy1 | select | dummy2 | poll | tail | token | releaseDesel | primeArm =>
    exact .one rfl rfl
  | playFail => exact .two rfl rfl
  | start op => exact stepStart_grows op s
  | transmit rest ret => exact stepTransmit_grows rest ret s
  | payload i => exact stepPayload_grows i s
  | releaseDummy e => exact stepOperationEnd_grows e s
  | primeA => exact stepPrimeA_grows s
  | primeB => exact stepPrimeB_grows s
  | loopPlayed => exact stepLoopPlayed_grows s
  | loopStatus => exact stepLoopStatus_grows s
  | refill b => exact stepRefill_grows b s

/-- An instruction records one event: the bracket's deselect, the issue or the DAC frame. -/
theorem exec_grows {i : Instr} {s t : State} (h : exec i s = .next t) : GrowsFrom s t := by
  cases hp : i.port with
  | sdcmd48 =>
    rw [exec_of_sdcmd48 s hp] at h
    obtain ⟨_, _, _, rfl⟩ := beginFrame_next h
    exact .one rfl rfl
  | dac16 =>
    obtain ⟨w, hw⟩ := exec_of_dac16 s hp
    rw [hw] at h
    cases h
    exact .one rfl rfl
  | hostop =>
    obtain ⟨op, l, hi⟩ := exec_of_hostop s hp
    rw [hi] at h
    obtain ⟨_, _, _, rfl⟩ := issue_next h
    exact .one rfl rfl

theorem hostRead_grows (n : Byte) (s : State) : GrowsFrom s (hostRead n s) := by
  unfold hostRead
  split <;> exact .silent rfl rfl

/-- Taking the schedule's turn leaves the parameters and the history. -/
theorem GrowsFrom.of_takeTurn {s t : State} (h : GrowsFrom (takeTurn s) t) : GrowsFrom s t :=
  h.of_eq (takeTurn_cfg s) (takeTurn_hist s)

/-- HOST's moving past a line leaves them too. -/
theorem GrowsFrom.of_popLine {s t : State} (h : GrowsFrom (popLine s) t) : GrowsFrom s t :=
  h.of_eq rfl rfl

/-- Settles O10, by what a step can be: each agent's step grows from the state with the turn taken. -/
theorem parametersFixedAndHistoryGrows : Obligations.ParametersFixedAndHistoryGrows := by
  intro s t h
  suffices hg : GrowsFrom (takeTurn s) t from hg.of_takeTurn
  obtain ⟨-, -, hread | hreserved | hissue | hframe | hctl | hack | hfault | hemit⟩ :=
    step_next_cases h
  · obtain ⟨-, n, _, -, rfl⟩ := hread
    exact (hostRead_grows n _).of_popLine
  · obtain ⟨-, _, _, _, -, -, rfl⟩ := hreserved
    exact .one rfl rfl
  · obtain ⟨-, _, _, _, -, -, hx⟩ := hissue
    exact (exec_grows hx).of_popLine
  · obtain ⟨-, _, _, _, -, -, hx⟩ := hframe
    exact exec_grows hx
  · obtain ⟨-, -, rfl⟩ := hctl
    exact ctlStep_grows _
  · obtain ⟨-, -, rfl⟩ := hack
    exact .silent rfl rfl
  · obtain ⟨-, _, -, rfl⟩ := hfault
    exact .silent rfl rfl
  · obtain ⟨-, _, -, rfl⟩ := hemit
    exact .one rfl rfl

end Sys2Proof.Machine
end

section
/-! SUPPORT. The state statements (10_state.md): what a step does to CTL's point, `CT`, `BUSY`, `OP`, `RESULT` and the
timer, said once, and the invariants and single-writer rules that follow. -/

namespace Sys2Proof.Machine

/-! ## From one point of CTL to the next of the same operation -/

/-- `k'` belongs to the operation of `k`, to nobody's call only if `k` does, and carries no classification but a
legal one or the one `k` carries. -/
structure GoesOn (k k' : Kont) : Prop where
  op : kontOp k' = kontOp k
  solo : kontRet k' = some .solo → kontRet k = some .solo
  pending : ∀ ty, pendingType k' = some ty → ctLegal ty ∨ pendingType k = some ty

theorem GoesOn.refl (k : Kont) : GoesOn k k := ⟨rfl, id, fun _ => .inr⟩

/-- To a point of the same operation that is not nobody's call and carries no classification. -/
theorem GoesOn.untyped {k k' : Kont} {op : HostOp} (hk : kontOp k = some op)
    (hop : kontOp k' = some op) (hsolo : kontRet k' ≠ some .solo) (hty : pendingType k' = none) :
    GoesOn k k' :=
  ⟨hop.trans hk.symm, fun h => absurd h hsolo, fun ty h => by simp [hty] at h⟩

theorem ctLegal_none : ctLegal ctNone := .inl rfl

theorem ctLegal_sd1 : ctLegal ctSd1 := .inr (.inr (.inl rfl))

theorem ctLegal_classifyOcr (ocr : List Byte) : ctLegal (classifyOcr ocr) := by
  unfold classifyOcr
  split_ifs
  · exact .inr (.inr (.inr (.inr rfl)))
  · exact .inr (.inr (.inr (.inl rfl)))

theorem ctLegal_classifyProbe (r : Byte) : ctLegal (classifyProbe r) := by
  unfold classifyProbe
  split_ifs
  · exact ctLegal_sd1
  · exact .inr (.inl rfl)

/-! ### INIT's decisions -/

section
variable {k : Kont} (hk : kontOp k = some .init)
include hk

/-- INIT ends with a legal classification, or with the one it carries. -/
theorem GoesOn.initEnd {ty : BitVec 4} (hty : ctLegal ty ∨ pendingType k = some ty) :
    GoesOn k (initEnd ty) where
  op := hk.symm
  solo h := by cases h
  pending ty' h := by cases h; exact hty

/-- INIT calls SendCmd with the classification it carries, or with a legal one. -/
theorem GoesOn.send_typed {frame : List Byte} {ret : Ret} {ty : BitVec 4}
    (hret : retOp ret = some .init) (hp : pendingType (.send frame ret) = some ty)
    (hty : ctLegal ty ∨ pendingType k = some ty) : GoesOn k (.send frame ret) where
  op := Eq.trans hret hk.symm
  solo h := by cases h; cases hret
  pending ty' h := by cases hp.symm.trans h; exact hty

theorem GoesOn.hcsLoop (p : Params) (tmr : Nat) : GoesOn k (hcsLoop p tmr) := by
  unfold Machine.hcsLoop
  split_ifs
  · exact .initEnd hk (.inl ctLegal_none)
  · exact .untyped hk rfl nofun rfl

theorem GoesOn.legacyLoop (p : Params) {ty : BitVec 4} (tmr : Nat)
    (hty : ctLegal ty ∨ pendingType k = some ty) : GoesOn k (legacyLoop p ty tmr) := by
  unfold Machine.legacyLoop
  split_ifs
  · exact .initEnd hk (.inl ctLegal_none)
  · exact .untyped hk rfl nofun rfl
  · exact .send_typed hk rfl rfl hty

theorem GoesOn.afterProbe (p : Params) (r : Byte) : GoesOn k (afterProbe p r) :=
  .legacyLoop hk p _ (.inl (ctLegal_classifyProbe r))

theorem GoesOn.afterGoIdle (r : Byte) : GoesOn k (afterGoIdle r) := by
  unfold Machine.afterGoIdle
  split_ifs
  · exact .untyped hk rfl nofun rfl
  · exact .initEnd hk (.inl ctLegal_none)

theorem GoesOn.afterIfCond (p : Params) (r : Byte) : GoesOn k (afterIfCond p r) := by
  unfold Machine.afterIfCond
  split_ifs <;> exact .untyped hk rfl nofun rfl

theorem GoesOn.afterHcsPrefix (p : Params) (tmr : Nat) (r : Byte) :
    GoesOn k (afterHcsPrefix p tmr r) := by
  unfold Machine.afterHcsPrefix
  split_ifs
  · exact .untyped hk rfl nofun rfl
  · exact .hcsLoop hk p _

theorem GoesOn.afterHcsPoll (p : Params) (tmr : Nat) (r : Byte) :
    GoesOn k (afterHcsPoll p tmr r) := by
  unfold Machine.afterHcsPoll
  split_ifs
  · exact .untyped hk rfl nofun rfl
  · exact .hcsLoop hk p _

theorem GoesOn.afterReadOcr (r : Byte) : GoesOn k (afterReadOcr r) := by
  unfold Machine.afterReadOcr
  split_ifs
  · exact .untyped hk rfl nofun rfl
  · exact .initEnd hk (.inl ctLegal_none)

theorem GoesOn.afterProbePrefix (p : Params) (r : Byte) : GoesOn k (afterProbePrefix p r) := by
  unfold Machine.afterProbePrefix
  split_ifs
  · exact .untyped hk rfl nofun rfl
  · exact .afterProbe hk p r

theorem GoesOn.afterLegacyPrefix (p : Params) (tmr : Nat) (r : Byte) :
    GoesOn k (afterLegacyPrefix p tmr r) := by
  unfold Machine.afterLegacyPrefix
  split_ifs
  · exact .send_typed hk rfl rfl (.inl ctLegal_sd1)
  · exact .legacyLoop hk p _ (.inl ctLegal_sd1)

theorem GoesOn.afterLegacyPoll (p : Params) (tmr : Nat) {ty : BitVec 4} (r : Byte)
    (hty : ctLegal ty ∨ pendingType k = some ty) : GoesOn k (afterLegacyPoll p tmr ty r) := by
  unfold Machine.afterLegacyPoll
  split_ifs
  · exact .send_typed hk rfl rfl hty
  · exact .legacyLoop hk p _ hty

theorem GoesOn.afterSetBlocklen {ty : BitVec 4} (r : Byte)
    (hty : ctLegal ty ∨ pendingType k = some ty) : GoesOn k (afterSetBlocklen ty r) := by
  unfold Machine.afterSetBlocklen
  split_ifs
  · exact .initEnd hk hty
  · exact .initEnd hk (.inl ctLegal_none)

theorem GoesOn.afterTail (p : Params) (what : TailOf) (ocr : List Byte) :
    GoesOn k (afterTail p what ocr) := by
  cases what with
  | ifCond =>
    unfold Machine.afterTail
    split_ifs
    · exact .hcsLoop hk p _
    · exact .initEnd hk (.inl ctLegal_none)
  | ocr => exact .initEnd hk (.inl (ctLegal_classifyOcr ocr))

theorem GoesOn.afterClocks (left : Nat) : GoesOn k (afterClocks left) := by
  unfold Machine.afterClocks
  split_ifs <;> exact .untyped hk rfl nofun rfl

theorem GoesOn.nextTail (p : Params) (what : TailOf) (got : List Byte) :
    GoesOn k (nextTail p what got) := by
  unfold Machine.nextTail
  split_ifs
  · exact .afterTail hk p what got
  · exact .untyped hk rfl nofun rfl

end

/-! ### READP's decisions -/

theorem GoesOn.afterReadBlock {k : Kont} (hk : kontOp k = some .readp) (p : Params) (r : Byte) :
    GoesOn k (afterReadBlock p r) := by
  unfold Machine.afterReadBlock
  split_ifs <;> exact .untyped hk rfl nofun rfl

theorem GoesOn.afterToken {k : Kont} (hk : kontOp k = some .readp) (left : Nat) (rc : Byte) :
    GoesOn k (afterToken left rc) := by
  unfold Machine.afterToken
  split_ifs <;> exact .untyped hk rfl nofun rfl

theorem GoesOn.afterPayload {k : Kont} (hk : kontOp k = some .readp) (i : Nat) :
    GoesOn k (afterPayload i) := by
  unfold Machine.afterPayload
  split_ifs <;> exact .untyped hk rfl nofun rfl

/-! ### SendCmd's return -/

/-- The R1 returns to the caller's operation; a frame nobody called for leaves CTL idle. -/
theorem GoesOn.afterR1 (p : Params) (left : Nat) (ret : Ret) (r : Byte) :
    GoesOn (.poll left ret) (afterR1 p ret r) := by
  cases ret with
  | solo => exact ⟨rfl, nofun, nofun⟩
  | goIdle => exact .afterGoIdle rfl r
  | ifCond => exact .afterIfCond rfl p r
  | hcsPrefix tmr => exact .afterHcsPrefix rfl p tmr r
  | hcsPoll tmr => exact .afterHcsPoll rfl p tmr r
  | readOcr => exact .afterReadOcr rfl r
  | probePrefix => exact .afterProbePrefix rfl p r
  | probe => exact .afterProbe rfl p r
  | legacyPrefix tmr => exact .afterLegacyPrefix rfl p tmr r
  | legacyPoll tmr ty => exact .afterLegacyPoll rfl p tmr r (.inr rfl)
  | setBlocklen ty => exact .afterSetBlocklen rfl r (.inr rfl)
  | readBlock => exact .afterReadBlock rfl p r

/-- A point of a call belongs to the caller's operation. -/
theorem kontOp_of_call {k : Kont} {ret : Ret} (h : kontRet k = some ret) : kontOp k = retOp ret := by
  cases k <;> cases h <;> rfl

/-- A point of a call carries what the caller carries. -/
theorem pendingType_of_call {k : Kont} {ret : Ret} (h : kontRet k = some ret) :
    pendingType k = pendingType (.poll 0 ret) := by
  cases k <;> cases h <;> rfl

/-- Two points of one call of SendCmd. -/
theorem GoesOn.of_same_call {k k' : Kont} {ret : Ret} (h : kontRet k = some ret)
    (h' : kontRet k' = some ret) : GoesOn k k' where
  op := (kontOp_of_call h').trans (kontOp_of_call h).symm
  solo hs := h.trans (h'.symm.trans hs)
  pending ty hty := .inr (by rwa [pendingType_of_call h, ← pendingType_of_call h'])

theorem GoesOn.nextPoll (p : Params) (left left' : Nat) (ret : Ret) (r : Byte) :
    GoesOn (.poll left ret) (nextPoll p left' ret r) := by
  unfold Machine.nextPoll
  split_ifs
  · exact .afterR1 p left ret r
  · exact .of_same_call rfl rfl

/-! ## CTL's step: the operation goes on, or it ends -/

/-- The operation goes on: CTL moves within it, and `CT`, `BUSY`, `OP` and `RESULT` stay. -/
structure Continues (s t : State) : Prop where
  goes : GoesOn s.k t.k
  ct : t.ct = s.ct
  busy : t.busy = s.busy
  op : t.op = s.op
  result : t.result = s.result
  timer : s.timerArmed = inPlayLoop s.k → t.timerArmed = inPlayLoop t.k

/-- INIT's last step: `CT` becomes the classification INIT carries, `RESULT` what it gives, and the history gains
the release's receive and Done (40_framer_and_init.md R143). -/
def InitEnds (s t : State) : Prop :=
  ∃ ty answer, s.k = .releaseDummy (.init ty) ∧ t.ct = ty ∧ t.result = initResult ty ∧
    t.hist = s.hist ++ [.busX s.sdCs filler answer, .done s.op t.result]

/-- The operation ends: the block is idle and Done is recorded with the new `RESULT` (60_exceptions.md R300). -/
structure Ends (s t : State) : Prop where
  k : t.k = .idle
  busy : t.busy = false
  op : t.op = none
  done : ∃ before, t.hist = before ++ [.done s.op t.result]
  ct : t.ct = s.ct ∨ InitEnds s t
  timer : s.timerArmed = inPlayLoop s.k → t.timerArmed = false

theorem inPlayLoop_of_not_play {k : Kont} (h : kontOp k ≠ some .play) : inPlayLoop k = false := by
  cases k with
  | loopPlayed | loopStatus | refill | refillReady | playFail => exact absurd rfl h
  | _ => rfl

/-- Outside PLAY the timer is off on both sides. -/
theorem GoesOn.loop {k k' : Kont} (h : GoesOn k k') (hk : kontOp k ≠ some .play) :
    inPlayLoop k' = inPlayLoop k := by
  have hk' : kontOp k' ≠ some .play := h.op ▸ hk
  rw [inPlayLoop_of_not_play hk, inPlayLoop_of_not_play hk']

/-- No point of a call of SendCmd is PLAY's. -/
theorem kontOp_ne_play_of_call {k : Kont} {ret : Ret} (h : kontRet k = some ret) :
    kontOp k ≠ some .play := by
  rw [kontOp_of_call h]
  cases ret <;> nofun

section
variable {s : State}

/-- CTL goes on, after an action that leaves the operation's registers. -/
theorem Continues.of_goto {u : State} {k k' : Kont} (hk : s.k = k) (hg : GoesOn k k')
    (hloop : inPlayLoop k' = inPlayLoop k) (hct : u.ct = s.ct := by rfl)
    (hb : u.busy = s.busy := by rfl) (hop : u.op = s.op := by rfl)
    (hr : u.result = s.result := by rfl) (ht : u.timerArmed = s.timerArmed := by rfl) :
    Continues s (goto k' u) where
  goes := hk ▸ hg
  ct := hct
  busy := hb
  op := hop
  result := hr
  timer h := by rw [goto_timerArmed, goto_k, ht, h, hk, hloop]

/-- CTL goes on outside PLAY. -/
theorem Continues.of_goto_off_play {u : State} {k k' : Kont} (hk : s.k = k) (hg : GoesOn k k')
    (hplay : kontOp k ≠ some .play) (hct : u.ct = s.ct := by rfl)
    (hb : u.busy = s.busy := by rfl) (hop : u.op = s.op := by rfl)
    (hr : u.result = s.result := by rfl) (ht : u.timerArmed = s.timerArmed := by rfl) :
    Continues s (goto k' u) :=
  .of_goto hk hg (hg.loop hplay) hct hb hop hr ht

/-- CTL goes on at a point of the call of SendCmd it was in. -/
theorem Continues.of_same_call {u : State} {k k' : Kont} {ret : Ret} (hk : s.k = k)
    (hret : kontRet k = some ret) (hret' : kontRet k' = some ret) (hct : u.ct = s.ct := by rfl)
    (hb : u.busy = s.busy := by rfl) (hop : u.op = s.op := by rfl)
    (hr : u.result = s.result := by rfl) (ht : u.timerArmed = s.timerArmed := by rfl) :
    Continues s (goto k' u) :=
  .of_goto_off_play hk (.of_same_call hret hret') (kontOp_ne_play_of_call hret) hct hb hop hr ht

/-- Every register the operation's agreement speaks of stays. -/
theorem Continues.of_same {t : State} (hk : t.k = s.k := by rfl) (hct : t.ct = s.ct := by rfl)
    (hb : t.busy = s.busy := by rfl) (hop : t.op = s.op := by rfl)
    (hr : t.result = s.result := by rfl) (ht : t.timerArmed = s.timerArmed := by rfl) :
    Continues s t where
  goes := hk ▸ .refl _
  ct := hct
  busy := hb
  op := hop
  result := hr
  timer h := by rw [ht, h, hk]

/-- An operation returns with the timer off, and `CT` stays. -/
theorem Ends.of_finish {u : State} (code : Byte)
    (ht : s.timerArmed = inPlayLoop s.k → u.timerArmed = false) (hop : u.op = s.op := by rfl)
    (hct : u.ct = s.ct := by rfl) : Ends s (finish code u) where
  k := rfl
  busy := rfl
  op := rfl
  done := ⟨u.hist, by rw [finish_hist, hop]; rfl⟩
  ct := .inl hct
  timer := ht

/-- An operation returns from a point outside PLAY's loop. -/
theorem Ends.of_finish_unarmed {u : State} {k : Kont} (code : Byte) (hk : s.k = k)
    (hloop : inPlayLoop k = false) (ht : u.timerArmed = s.timerArmed := by rfl)
    (hop : u.op = s.op := by rfl) (hct : u.ct = s.ct := by rfl) : Ends s (finish code u) :=
  .of_finish code (fun h => by rw [ht, h, hk, hloop]) hop hct

/-! ### CTL's steps that branch -/

theorem stepStart_continues_or_ends {op : HostOp} (hk : s.k = .start op) :
    Continues s (stepStart op s) ∨ Ends s (stepStart op s) := by
  cases op with
  | init => exact .inl (.of_goto_off_play hk (.afterClocks rfl _) nofun)
  | readp =>
    refine .inl ?_
    unfold stepStart stepReadpStart
    split_ifs
    · exact .of_same
    · exact .of_same
    · exact .of_goto hk (.untyped rfl rfl nofun rfl) rfl
  | writepInit | writepAppend | writepFinal => exact .inl .of_same
  | loadfmt =>
    unfold stepStart stepLoadfmt
    split_ifs
    · exact .inl .of_same
    · exact .inl .of_same
    · exact .inr (.of_finish_unarmed _ hk rfl)
  | play =>
    unfold stepStart stepPlayStart
    split_ifs
    · exact .inl (.of_goto hk (.untyped rfl rfl nofun rfl) rfl)
    · exact .inr (.of_finish_unarmed _ hk rfl)

theorem stepTransmit_continues {rest : List Byte} {ret : Ret} (hk : s.k = .transmit rest ret) :
    Continues s (stepTransmit rest ret s) := by
  match rest with
  | [] => exact .of_same_call hk rfl rfl
  | [_] => exact .of_same_call hk rfl rfl
  | _ :: _ :: _ => exact .of_same_call hk rfl rfl

theorem stepPayload_continues {i : Nat} (hk : s.k = .payload i) : Continues s (stepPayload i s) := by
  unfold stepPayload
  split_ifs <;> exact .of_goto_off_play hk (.afterPayload rfl i) nofun

theorem stepOperationEnd_ends {e : EndOf} (hk : s.k = .releaseDummy e) :
    Ends s (stepOperationEnd e s) := by
  cases e with
  | readp code => exact .of_finish_unarmed _ hk rfl
  | init ty =>
    have he : Ends (writeCt ty s) (stepInitEnd ty s) := .of_finish_unarmed _ hk rfl
    have hc : InitEnds s (stepInitEnd ty s) :=
      ⟨ty, cardByte filler s, hk, by simp [stepInitEnd_eq]⟩
    exact { he with ct := .inr hc }

theorem stepPrimeA_continues_or_ends (hk : s.k = .primeA) :
    Continues s (stepPrimeA s) ∨ Ends s (stepPrimeA s) := by
  unfold stepPrimeA
  split
  next => exact .inr (.of_finish_unarmed _ hk rfl)
  next =>
    split_ifs
    · exact .inr (.of_finish_unarmed _ hk rfl)
    · exact .inl (.of_goto hk (.untyped rfl rfl nofun rfl) rfl)

theorem stepPrimeB_continues_or_ends (hk : s.k = .primeB) :
    Continues s (stepPrimeB s) ∨ Ends s (stepPrimeB s) := by
  unfold stepPrimeB
  split
  next => exact .inr (.of_finish_unarmed _ hk rfl)
  next => exact .inl (.of_goto hk (.untyped rfl rfl nofun rfl) rfl)

/-- Arming the timer is the way into PLAY's loop. -/
theorem stepPrimeArm_continues (hk : s.k = .primeArm) : Continues s (stepPrimeArm s) where
  goes := hk ▸ .untyped rfl rfl nofun rfl
  ct := rfl
  busy := rfl
  op := rfl
  result := rfl
  timer _ := rfl

theorem stepLoopPlayed_continues_or_ends (hk : s.k = .loopPlayed) :
    Continues s (stepLoopPlayed s) ∨ Ends s (stepLoopPlayed s) := by
  unfold stepLoopPlayed
  split_ifs
  · exact .inr (.of_finish _ fun _ => rfl)
  · exact .inl (.of_goto hk (.untyped rfl rfl nofun rfl) rfl)

theorem stepLoopStatus_continues (hk : s.k = .loopStatus) : Continues s (stepLoopStatus s) := by
  unfold stepLoopStatus
  split_ifs <;> exact .of_goto hk (.untyped rfl rfl nofun rfl) rfl

theorem stepRefill_continues {b : BufId} (hk : s.k = .refill b) : Continues s (stepRefill b s) := by
  unfold stepRefill
  split <;> exact .of_goto hk (.untyped rfl rfl nofun rfl) rfl

end

/-- What CTL's step can do to the operation. -/
theorem ctlStep_continues_or_ends (s : State) : Continues s (ctlStep s) ∨ Ends s (ctlStep s) := by
  unfold ctlStep
  cases hk : s.k with
  | idle | send => exact .inl .of_same
  | start op => exact stepStart_continues_or_ends hk
  | clocks left => exact .inl (.of_goto_off_play hk (.afterClocks rfl _) nofun)
  | dummy1 | select | dummy2 => exact .inl (.of_same_call hk rfl rfl)
  | transmit rest ret => exact .inl (stepTransmit_continues hk)
  | poll left ret =>
    have hcall : kontOp (.poll left ret) ≠ some .play := kontOp_ne_play_of_call rfl
    exact .inl (.of_goto_off_play hk (.nextPoll _ _ _ _ _) hcall)
  | tail what got => exact .inl (.of_goto_off_play hk (.nextTail rfl _ _ _) nofun)
  | token left => exact .inl (.of_goto_off_play hk (.afterToken rfl _ _) nofun)
  | payload i => exact .inl (stepPayload_continues hk)
  | releaseDesel e =>
    have hg : GoesOn (.releaseDesel e) (.releaseDummy e) := by
      cases e <;> exact ⟨rfl, id, fun _ => .inr⟩
    exact .inl (.of_goto hk hg rfl)
  | releaseDummy e => exact .inr (stepOperationEnd_ends hk)
  | primeA => exact stepPrimeA_continues_or_ends hk
  | primeB => exact stepPrimeB_continues_or_ends hk
  | primeArm => exact .inl (stepPrimeArm_continues hk)
  | loopPlayed => exact stepLoopPlayed_continues_or_ends hk
  | loopStatus => exact .inl (stepLoopStatus_continues hk)
  | refill b => exact .inl (stepRefill_continues hk)
  | primeSet | refillReady => exact .inl (.of_goto hk (.untyped rfl rfl nofun rfl) rfl)
  | playFail e => exact .inr (.of_finish _ fun _ => rfl)

/-! ## A step of any agent -/

/-- HOST issues an operation: `BUSY` was 0, and CTL stands at the operation's first line (60_exceptions.md R300). -/
structure Issues (s t : State) : Prop where
  idle : s.busy = false
  busy : t.busy = true
  started : ∃ op, t.op = some op ∧ t.k = .start op
  ct : t.ct = s.ct
  result : t.result = s.result
  timer : t.timerArmed = s.timerArmed

/-- An issue that answers a next state is HOST's. -/
theorem issues_of_exec {i : Instr} {s t : State} (hp : i.port = .hostop) (h : exec i s = .next t) :
    Issues s t := by
  obtain ⟨op, l, hi⟩ := exec_of_hostop s hp
  obtain ⟨-, -, hb, rfl⟩ := issue_next (hi ▸ h)
  exact ⟨hb, rfl, ⟨op, rfl, rfl⟩, rfl, rfl, rfl⟩

/-- CTL begins a frame within the call it stands at. -/
theorem continues_of_exec {i : Instr} {s t : State} (hp : i.port = .sdcmd48)
    (h : exec i s = .next t) : Continues s t := by
  rw [exec_of_sdcmd48 s hp] at h
  obtain ⟨called, ret, hk, rfl⟩ := beginFrame_next h
  exact .of_same_call hk rfl rfl

theorem hostRead_continues (n : Byte) (s : State) : Continues s (hostRead n s) := by
  unfold hostRead
  split <;> exact .of_same

section
variable {s t : State}

theorem Continues.of_takeTurn (h : Continues (takeTurn s) t) : Continues s t := by
  obtain ⟨_, _, e⟩ := takeTurn_eq s
  rw [e] at h
  exact { h with }

theorem Ends.of_takeTurn (h : Ends (takeTurn s) t) : Ends s t := by
  obtain ⟨_, _, e⟩ := takeTurn_eq s
  rw [e] at h
  exact { h with }

theorem Issues.of_takeTurn (h : Issues (takeTurn s) t) : Issues s t := by
  obtain ⟨_, _, e⟩ := takeTurn_eq s
  rw [e] at h
  exact { h with }

/-- What a step can do to the operation: HOST issues one, CTL ends one, or it goes on as it was or within CTL. -/
theorem step_operation_cases (h : step s = .next t) : Issues s t ∨ Continues s t ∨ Ends s t := by
  suffices hu : Issues (takeTurn s) t ∨ Continues (takeTurn s) t ∨ Ends (takeTurn s) t from
    hu.imp .of_takeTurn (.imp .of_takeTurn .of_takeTurn)
  obtain ⟨-, -, hread | hreserved | hissue | hframe | hctl | hack | hfault | hemit⟩ :=
    step_next_cases h
  · obtain ⟨-, n, _, -, rfl⟩ := hread
    exact .inr (.inl { hostRead_continues n (popLine (takeTurn s)) with })
  · obtain ⟨-, _, _, _, -, -, rfl⟩ := hreserved
    exact .inr (.inl .of_same)
  · obtain ⟨-, _, _, _, -, hd, hx⟩ := hissue
    exact .inl { issues_of_exec (decodeWord_port hd) hx with }
  · obtain ⟨-, _, _, _, -, hd, hx⟩ := hframe
    exact .inr (.inl (continues_of_exec (decodeWord_port hd) hx))
  · obtain ⟨-, -, rfl⟩ := hctl
    exact .inr (ctlStep_continues_or_ends _)
  · obtain ⟨-, -, rfl⟩ := hack
    exact .inr (.inl .of_same)
  · obtain ⟨-, _, -, rfl⟩ := hfault
    exact .inr (.inl .of_same)
  · obtain ⟨-, _, -, rfl⟩ := hemit
    exact .inr (.inl .of_same)

end

/-! ## The statements on the operation's registers -/

/-- Settles O53: the classification INIT carries stays legal from point to point, and its last step writes it. -/
theorem everyStepKeepsCardTypeLegal : Obligations.EveryStepKeepsCardTypeLegal := by
  intro s t ⟨hct, hpend⟩ h
  obtain hi | hc | he := step_operation_cases h
  · obtain ⟨op, -, hk⟩ := hi.started
    exact ⟨hi.ct ▸ hct, fun ty hty => by rw [hk] at hty; cases hty⟩
  · exact ⟨hc.ct ▸ hct, fun ty hty => (hc.goes.pending ty hty).elim id (hpend ty)⟩
  · refine ⟨?_, fun ty hty => by rw [he.k] at hty; cases hty⟩
    obtain hct' | ⟨ty, -, hk, hct', -⟩ := he.ct
    · exact hct' ▸ hct
    · exact hct' ▸ hpend ty (hk ▸ rfl)

/-- Settles O54: an issue sets all three, a step within the operation keeps them, its end clears them. -/
theorem everyStepKeepsOneOperation : Obligations.EveryStepKeepsOneOperation := by
  intro s t ⟨hbusy, hop, hsolo⟩ h
  obtain hi | hc | he := step_operation_cases h
  · obtain ⟨op, hop', hk⟩ := hi.started
    simp [OperationInv, hi.busy, hop', hk, kontOp, kontRet]
  · exact ⟨by rw [hc.busy, hc.op, hbusy], by rw [hc.op, hc.goes.op, hop],
      fun hs => hsolo (hc.goes.solo hs)⟩
  · simp [OperationInv, he.busy, he.op, he.k, kontOp, kontRet]

/-- Settles O56: CTL alone moves the timer, in step with its way into PLAY's loop and out of it. -/
theorem everyStepKeepsTheTimerInPlay : Obligations.EveryStepKeepsTheTimerInPlay := by
  intro s t ⟨hop, htimer⟩ h
  refine ⟨everyStepKeepsOneOperation s t hop h, ?_⟩
  obtain hi | hc | he := step_operation_cases h
  · obtain ⟨hbusy, hkop, -⟩ := hop
    have hidle : kontOp s.k ≠ some .play := by
      intro hplay
      rw [hi.idle, hkop, hplay] at hbusy
      cases hbusy
    obtain ⟨op, -, hk⟩ := hi.started
    rw [hi.timer, htimer, inPlayLoop_of_not_play hidle, hk]
    rfl
  · exact hc.timer htimer
  · rw [he.timer htimer, he.k]
    rfl

/-- Settles O47: of the three things a step can do, only INIT's end writes `CT`. -/
theorem onlyInitEndWritesCardType : Obligations.OnlyInitEndWritesCardType := by
  intro s t h hne
  obtain hi | hc | he := step_operation_cases h
  · exact absurd hi.ct hne
  · exact absurd hc.ct hne
  · obtain hct | ⟨ty, answer, hk, hct, hresult, hhist⟩ := he.ct
    · exact absurd hct hne
    · exact ⟨ty, answer, hk, hct, he.k, he.busy, hresult, hhist⟩

/-- Settles O48: an issue and a step within the operation leave `RESULT` and keep `BUSY`; the end records Done. -/
theorem onlyDoneWritesResult : Obligations.OnlyDoneWritesResult := by
  intro s t h
  obtain hi | hc | he := step_operation_cases h
  · exact .inl ⟨hi.result, fun _ => hi.busy⟩
  · exact .inl ⟨hc.result, fun hb => hc.busy.trans hb⟩
  · exact .inr ⟨he.busy, he.op, he.k, he.done⟩

end Sys2Proof.Machine
end

section
/-! SUPPORT. The playback statements (10_state.md R38 items 3 to 5, R39): the playback invariant, kept by every step, and
who writes which register of the FIFO. -/

namespace Sys2Proof.Machine

/-! ## The parts of the playback invariant -/

/-- The bounds of the FIFO's registers that hold at every point (10_state.md R38). -/
structure FifoBounds (size : Nat) (f : Fifo) : Prop where
  lenA : f.lenA ≤ size
  lenB : f.lenB ≤ size
  cur : f.cur ≤ f.endp
  endp : f.endp ≤ size
  status : f.status = statusReady ∨ f.status = statusFilling

/-- PLAY has set a playback up: `END = LEN[ACT]`, and `PLAYED` within its bound (10_state.md R38 items 3, 4). -/
def PlaySetUp (s : State) : Prop :=
  s.fifo.endp = s.fifo.len s.fifo.act ∧
  s.fifo.played.toNat ≤ s.fmt.size.toNat + sampleWidth s - 1

/-- It speaks of `END`, `LEN[ACT]`, `PLAYED` and the format alone. -/
theorem PlaySetUp.of_eq {s t : State} (h : PlaySetUp s) (hend : t.fifo.endp = s.fifo.endp)
    (hlen : t.fifo.len t.fifo.act = s.fifo.len s.fifo.act)
    (hplayed : t.fifo.played = s.fifo.played) (hfmt : t.fmt = s.fmt) : PlaySetUp t := by
  unfold PlaySetUp sampleWidth at h ⊢
  rwa [hend, hlen, hplayed, hfmt]

/-- The playback invariant beside the timer's: the bounds, the range once PLAY has set it up, and what its point says. -/
structure Playable (s : State) : Prop where
  bounds : FifoBounds s.cfg.bufSize s.fifo
  range : s.k = .primeArm ∨ inPlayLoop s.k = true → PlaySetUp s
  point : playPoint s

theorem streamInv_iff {s : State} : StreamInv s ↔ TimerInv s ∧ Playable s := by
  constructor
  · rintro ⟨ht, hA, hB, hcur, hend, hst, hr, hp⟩
    exact ⟨ht, ⟨hA, hB, hcur, hend, hst⟩, ht.2 ▸ hr, hp⟩
  · rintro ⟨ht, ⟨hA, hB, hcur, hend, hst⟩, hr, hp⟩
    refine ⟨ht, hA, hB, hcur, hend, hst, ?_, hp⟩
    unfold playRange
    rwa [ht.2]

/-- Where no playback is set up, there is no range to speak of. -/
theorem Playable.of_not_set_up {s : State} (hb : FifoBounds s.cfg.bufSize s.fifo)
    (harm : s.k ≠ .primeArm) (hloop : inPlayLoop s.k = false) (hp : playPoint s) : Playable s where
  bounds := hb
  range h := by
    obtain h | h := h
    · exact absurd h harm
    · rw [hloop] at h
      cases h
  point := hp

theorem playPoint_of_not_play {s : State} (h : kontOp s.k ≠ some .play) : playPoint s := by
  unfold playPoint
  cases hk : s.k with rw [hk] at h
  | primeB | primeSet | primeArm | loopPlayed | loopStatus | refill | refillReady | playFail =>
    exact absurd rfl h
  | _ => trivial

/-- Outside PLAY the bounds are all. -/
theorem Playable.of_not_play {s : State} (hb : FifoBounds s.cfg.bufSize s.fifo)
    (hk : kontOp s.k ≠ some .play) : Playable s :=
  .of_not_set_up hb (fun h => hk (congrArg kontOp h)) (inPlayLoop_of_not_play hk)
    (playPoint_of_not_play hk)

theorem FifoBounds.len_le {size : Nat} {f : Fifo} (h : FifoBounds size f) (k : BufId) :
    f.len k ≤ size := by
  cases k
  · exact h.lenA
  · exact h.lenB

theorem FifoBounds.setBuf {size : Nat} {f : Fifo} (h : FifoBounds size f) (k : BufId) (m : Memory) :
    FifoBounds size (f.setBuf k m) := by
  cases k <;> exact { h with }

theorem FifoBounds.setLen {size : Nat} {f : Fifo} (h : FifoBounds size f) (k : BufId) {n : Nat}
    (hn : n ≤ size) : FifoBounds size (f.setLen k n) := by
  cases k
  · exact { h with lenA := hn }
  · exact { h with lenB := hn }

/-! ## What a file read leaves -/

section
variable {s : State} {k : BufId} {n : Nat}

theorem fileRead_bounds {size : Nat} (h : FifoBounds size s.fifo) :
    FifoBounds size (fileRead k n s).fifo :=
  h.setBuf k _

/-- After a count the buffer's length is the count, within what was asked for (20_memory.md R66). -/
theorem fileRead_count_bounds {bytes : List Byte} (h : FifoBounds n s.fifo)
    (ha : fileAnswer k n s = .count bytes) :
    FifoBounds n (setLen k bytes.length (fileRead k n s)).fifo :=
  (fileRead_bounds h).setLen k (fileAnswer_count_le ha)

/-- A file read leaves the other buffer. -/
theorem filled_fileRead_of_ne {j : BufId} (hj : j ≠ k) (h : Filled s.fifo j) :
    Filled (fileRead k n s).fifo j := by
  unfold Filled at h ⊢
  simpa [Fifo.buf_setBuf, hj] using h

/-- After a count the whole live range is written, and so is the other buffer's if it was. -/
theorem filled_fileRead_count {bytes : List Byte} {j : BufId}
    (ha : fileAnswer k n s = .count bytes) (h : j ≠ k → Filled s.fifo j) :
    Filled (setLen k bytes.length (fileRead k n s)).fifo j := by
  by_cases hj : j = k
  · subst hj
    intro i hi
    simp only [setLen_fifo, Fifo.len_setLen, if_true] at hi
    simp [Fifo.buf_setBuf, ha, fillBuffer, Memory.read_writeFrom, hi]
  · have hf := filled_fileRead_of_ne (n := n) hj (h hj)
    unfold Filled at hf ⊢
    simpa only [setLen_fifo, Fifo.len_setLen, if_neg hj, Fifo.setLen_buf] using hf

end

/-! ## The tick -/

theorem sampleWidth_eq (s : State) : sampleWidth s = 1 ∨ sampleWidth s = 2 := by
  unfold sampleWidth
  split_ifs
  · exact .inr rfl
  · exact .inl rfl

/-- The checks a tick that emits has passed (43_emitter.md R241): the size is not played, no underrun is due, the
range holds a whole sample, and the counter does not wrap. -/
theorem checks_of_emits {s : State} {w : Half} (h : tick s = .emits w) :
    ¬sizePlayed s ∧ ¬underrunDue s ∧ (tickRange s).cur + sampleWidth s ≤ (tickRange s).endp ∧
      s.fifo.played.toNat + sampleWidth s < 2 ^ 32 := by
  unfold tick at h
  split at h
  · cases h
  next hsize =>
  split at h
  · split at h <;> cases h
  next hunder =>
  split_ifs at h with hempty hsplit hwrap
  refine ⟨hsize, hunder, ?_, Nat.lt_of_not_le hwrap⟩
  obtain hw | hw := sampleWidth_eq s <;> omega

/-- With `END = LEN[ACT]`, the range of a tick ends at its buffer's length. -/
theorem tickRange_endp {s : State} (h : s.fifo.endp = s.fifo.len s.fifo.act) :
    (tickRange s).endp = s.fifo.len (tickRange s).act := by
  unfold tickRange
  split_ifs
  · rfl
  · exact h

theorem filled_tickCommit {s : State} {k : BufId} :
    Filled (tickCommit s).fifo k ↔ Filled s.fifo k := by
  cases k <;> exact Iff.rfl

/-- A tick that swaps no range keeps what its point of PLAY says. -/
theorem playPoint_tickCommit_of_not_exhausted {s : State} (hx : ¬rangeExhausted s)
    (h : playPoint s) : playPoint (tickCommit s) := by
  have hact : (tickCommit s).fifo.act = s.fifo.act := by simp [tickRange, hx]
  have hst : (tickCommit s).fifo.status = s.fifo.status := by simp [hx]
  unfold playPoint at h ⊢
  rw [tickCommit_k]
  simpa only [hact, hst, filled_tickCommit] using h

/-- A tick swaps at the loop's two reads only: at the other points of the loop `STATUS = Filling`, and an exhausted
range is an underrun. -/
theorem playPoint_tickCommit_of_exhausted {s : State} (hloop : inPlayLoop s.k = true)
    (hx : rangeExhausted s) (hu : ¬underrunDue s) (h : playPoint s) : playPoint (tickCommit s) := by
  have hst : s.fifo.status ≠ statusFilling := fun hf => hu ⟨hx, hf⟩
  unfold playPoint at h ⊢
  rw [tickCommit_k]
  cases hk : s.k with rw [hk] at h hloop
  | loopPlayed | loopStatus => simpa only [filled_tickCommit] using h
  | refill => exact absurd h.2.2.1 hst
  | refillReady => exact absurd h.2.2 hst
  | playFail => exact absurd h.2 hst
  | _ => cases hloop

/-- A tick that emits keeps the playback. -/
theorem Playable.tickCommit {s : State} {w : Half} (h : Playable s) (hloop : inPlayLoop s.k = true)
    (ht : tick s = .emits w) : Playable (tickCommit s) := by
  obtain ⟨hsize, hu, hfits, hwrap⟩ := checks_of_emits ht
  have hend := tickRange_endp (h.range (.inr hloop)).1
  refine ⟨{ h.bounds with cur := hfits, endp := ?_, status := ?_ }, fun _ => ⟨?_, ?_⟩, ?_⟩
  · rw [tickCommit_fifo_endp, hend]
    exact h.bounds.len_le _
  · rw [tickCommit_fifo_status]
    split_ifs
    · exact .inr rfl
    · exact h.bounds.status
  · rw [tickCommit_fifo_endp, hend, tickCommit_fifo_act]
    cases (tickRange s).act <;> rfl
  · have hw : sampleWidth (Machine.tickCommit s) = sampleWidth s := rfl
    rw [tickCommit_fifo_played, BitVec.toNat_add, BitVec.toNat_ofNat, tickCommit_fmt, hw]
    omega
  · by_cases hx : rangeExhausted s
    · exact playPoint_tickCommit_of_exhausted hloop hx hu h.point
    · exact playPoint_tickCommit_of_not_exhausted hx h.point

/-! ## CTL's step -/

/-- Outside PLAY CTL leaves the FIFO. -/
theorem ctlStep_fifo_of_not_play {s : State} (h : kontOp s.k ≠ some .play) :
    (ctlStep s).fifo = s.fifo := by
  unfold ctlStep
  cases hk : s.k with rw [hk] at h
  | clocks | dummy1 | select | dummy2 | poll | tail | token | releaseDesel => rfl
  | start op =>
    cases op with
    | init | writepInit | writepAppend | writepFinal => rfl
    | readp => simp only [stepStart, stepReadpStart]; split_ifs <;> rfl
    | loadfmt => simp only [stepStart, stepLoadfmt]; split_ifs <;> rfl
    | play => exact absurd rfl h
  | transmit rest ret => cases rest <;> rfl
  | payload i => simp only [stepPayload]; split_ifs <;> rfl
  | releaseDummy e => cases e <;> rfl
  | _ => exact absurd rfl h

theorem ctlStep_cfg (s : State) : (ctlStep s).cfg = s.cfg := (ctlStep_grows s).1

/-- Where CTL is not in PLAY, its step does not lead into PLAY. -/
theorem ctlStep_stays_off_play {s : State} (h : kontOp s.k ≠ some .play) :
    kontOp (ctlStep s).k ≠ some .play := by
  obtain hc | he := ctlStep_continues_or_ends s
  · rw [hc.goes.op]
    exact h
  · rw [he.k]
    nofun

/-- An operation that returns leaves the bounds, and CTL idle. -/
theorem Playable.of_finish {u : State} (code : Byte) (hb : FifoBounds u.cfg.bufSize u.fifo) :
    Playable (finish code u) :=
  .of_not_play hb nofun

section
variable {s : State} (h : Playable s)
include h

theorem Playable.stepPlayStart : Playable (stepPlayStart s) := by
  unfold Machine.stepPlayStart
  split_ifs
  · exact .of_not_set_up h.bounds nofun rfl trivial
  · exact .of_finish _ h.bounds

theorem Playable.stepPrimeA : Playable (stepPrimeA s) := by
  unfold Machine.stepPrimeA
  split
  next => exact .of_finish _ (fileRead_bounds h.bounds)
  next bytes ha =>
    have hb := fileRead_count_bounds h.bounds ha
    split_ifs
    · exact .of_finish _ hb
    · have hA := filled_fileRead_count (j := .bufA) ha fun hne => absurd rfl hne
      exact .of_not_set_up hb nofun rfl hA

theorem Playable.stepPrimeB (hk : s.k = .primeB) : Playable (stepPrimeB s) := by
  have hA : Filled s.fifo .bufA := by
    have hp := h.point
    rwa [playPoint, hk] at hp
  unfold Machine.stepPrimeB
  split
  next => exact .of_finish _ (fileRead_bounds h.bounds)
  next bytes ha =>
    have hfilled (j : BufId) : Filled (setLen .bufB bytes.length (fileRead .bufB _ s)).fifo j :=
      filled_fileRead_count ha fun hne => BufId.eq_other_of_ne hne ▸ hA
    exact .of_not_set_up (fileRead_count_bounds h.bounds ha) nofun rfl ⟨hfilled _, hfilled _⟩

theorem Playable.stepPrimeSet (hk : s.k = .primeSet) : Playable (stepPrimeSet s) where
  bounds := { h.bounds with cur := Nat.zero_le _, endp := h.bounds.lenA, status := .inl rfl }
  range _ := ⟨rfl, Nat.zero_le _⟩
  point := by
    have hp := h.point
    rwa [playPoint, hk] at hp

/-- CTL moves on in PLAY and leaves the FIFO and the format. -/
theorem Playable.of_same_fifo {t : State} (hcfg : t.cfg = s.cfg) (hfifo : t.fifo = s.fifo)
    (hfmt : t.fmt = s.fmt) (hk : s.k = .primeArm ∨ inPlayLoop s.k = true) (hp : playPoint t) :
    Playable t where
  bounds := hcfg ▸ hfifo ▸ h.bounds
  range _ := (h.range hk).of_eq (by rw [hfifo]) (by rw [hfifo]) (by rw [hfifo]) hfmt
  point := hp

theorem Playable.stepPrimeArm (hk : s.k = .primeArm) : Playable (stepPrimeArm s) := by
  have hp := h.point
  rw [playPoint, hk] at hp
  exact h.of_same_fifo rfl rfl rfl (.inl hk) hp

theorem Playable.stepLoopPlayed (hk : s.k = .loopPlayed) : Playable (stepLoopPlayed s) := by
  have hp := h.point
  rw [playPoint, hk] at hp
  unfold Machine.stepLoopPlayed
  split_ifs
  · exact .of_finish _ h.bounds
  · exact h.of_same_fifo rfl rfl rfl (.inr (hk ▸ rfl)) hp

theorem Playable.stepLoopStatus (hk : s.k = .loopStatus) : Playable (stepLoopStatus s) := by
  have hp := h.point
  rw [playPoint, hk] at hp
  unfold Machine.stepLoopStatus
  split_ifs with hst
  · exact h.of_same_fifo rfl rfl rfl (.inr (hk ▸ rfl)) ⟨hp.1, hp.2, hst, rfl⟩
  · exact h.of_same_fifo rfl rfl rfl (.inr (hk ▸ rfl)) hp

/-- A refill writes the buffer not in `ACT`, so the active range stays. -/
theorem Playable.stepRefill {b : BufId} (hk : s.k = .refill b) : Playable (stepRefill b s) := by
  have hp := h.point
  rw [playPoint, hk] at hp
  obtain ⟨hA, hB, hst, hb⟩ := hp
  have hact : s.fifo.act ≠ b := hb ▸ BufId.ne_other _
  have hset : PlaySetUp s := h.range (.inr (hk ▸ rfl))
  have hfilled (j : BufId) : Filled s.fifo j := by cases j <;> assumption
  unfold Machine.stepRefill
  split
  next e _ =>
    have hact' := filled_fileRead_of_ne (n := s.cfg.bufSize) hact (hfilled _)
    have hset' : PlaySetUp (goto (.playFail e) (fileRead b s.cfg.bufSize s)) :=
      hset.of_eq (by simp) (by simp) (by simp) rfl
    exact ⟨fileRead_bounds h.bounds, fun _ => hset', by simpa using hact', by simpa using hst⟩
  next bytes ha =>
    have hfilled' (j : BufId) : Filled (setLen b bytes.length (fileRead b _ s)).fifo j :=
      filled_fileRead_count ha fun _ => hfilled j
    have hset' :
        PlaySetUp (goto .refillReady (setLen b bytes.length (fileRead b s.cfg.bufSize s))) :=
      hset.of_eq (by simp) (by simp [Fifo.len_setLen, hact]) (by simp) rfl
    exact ⟨fileRead_count_bounds h.bounds ha, fun _ => hset', hfilled' _, hfilled' _,
      by simpa using hst⟩

theorem Playable.stepRefillReady (hk : s.k = .refillReady) : Playable (stepRefillReady s) where
  bounds := { h.bounds with status := .inl rfl }
  range _ := (h.range (.inr (hk ▸ rfl))).of_eq rfl rfl rfl rfl
  point := by
    have hp := h.point
    rw [playPoint, hk] at hp
    exact ⟨hp.1, hp.2.1⟩

/-- CTL's step at every point keeps the playback. -/
theorem Playable.ctlStep : Playable (ctlStep s) := by
  by_cases hplay : kontOp s.k = some .play
  · unfold Machine.ctlStep
    cases hk : s.k with rw [hk] at hplay
    | start op => cases hplay; exact h.stepPlayStart
    | primeA => exact h.stepPrimeA
    | primeB => exact h.stepPrimeB hk
    | primeSet => exact h.stepPrimeSet hk
    | primeArm => exact h.stepPrimeArm hk
    | loopPlayed => exact h.stepLoopPlayed hk
    | loopStatus => exact h.stepLoopStatus hk
    | refill => exact h.stepRefill hk
    | refillReady => exact h.stepRefillReady hk
    | playFail => exact .of_finish _ h.bounds
    | idle | clocks | tail | token | payload => cases hplay
    | releaseDesel e | releaseDummy e => cases e <;> cases hplay
    | send | dummy1 | select | dummy2 | transmit | poll =>
      exact absurd hplay (kontOp_ne_play_of_call rfl)
  · have hb : FifoBounds (Machine.ctlStep s).cfg.bufSize (Machine.ctlStep s).fifo := by
      rw [ctlStep_cfg, ctlStep_fifo_of_not_play hplay]
      exact h.bounds
    exact .of_not_play hb (ctlStep_stays_off_play hplay)

/-- What HOST, a frame's beginning and a fault leave of the state keeps the playback. -/
theorem Playable.of_same {t : State} (hcfg : t.cfg = s.cfg) (hfifo : t.fifo = s.fifo)
    (hfmt : t.fmt = s.fmt) (hk : t.k = s.k) : Playable t where
  bounds := hcfg ▸ hfifo ▸ h.bounds
  range ht := (h.range (hk ▸ ht)).of_eq (by rw [hfifo]) (by rw [hfifo]) (by rw [hfifo]) hfmt
  point := by
    have hp := h.point
    unfold playPoint at hp ⊢
    rwa [hk, hfifo]

theorem Playable.hostRead (n : Byte) : Playable (hostRead n s) := by
  unfold Machine.hostRead
  split <;> exact h.of_same rfl rfl rfl rfl

/-- An issue leaves the FIFO, and no playback is set up at an operation's first line. -/
theorem Playable.of_issue {i : Instr} {t : State} (hp : i.port = .hostop) (hx : exec i s = .next t) :
    Playable t := by
  obtain ⟨op, l, hi⟩ := exec_of_hostop s hp
  obtain ⟨-, -, -, rfl⟩ := issue_next (hi ▸ hx)
  exact .of_not_set_up h.bounds nofun rfl trivial

/-- A frame leaves the FIFO, and no playback is set up in a call of SendCmd. -/
theorem Playable.of_frame {i : Instr} {t : State} (hp : i.port = .sdcmd48) (hx : exec i s = .next t) :
    Playable t := by
  rw [exec_of_sdcmd48 s hp] at hx
  obtain ⟨_, _, -, rfl⟩ := beginFrame_next hx
  exact .of_not_set_up h.bounds nofun rfl trivial

theorem Playable.takeTurn : Playable (takeTurn s) := by
  obtain ⟨_, _, e⟩ := takeTurn_eq s
  rw [e]
  exact h.of_same rfl rfl rfl rfl

end

/-! ## The statements -/

/-- EMT moves only while the timer is armed (43_emitter.md R240). -/
theorem timerArmed_of_mover_emt {s : State} (h : mover s = some .emt) : s.timerArmed = true := by
  have he : emtHasStep s = true := hasStep_of_mover h
  exact (Bool.and_eq_true_iff.1 he).1

/-- Settles O57: the timer's part is O56, and each agent's step keeps the rest. -/
theorem everyStepKeepsThePlayback : Obligations.EveryStepKeepsThePlayback := by
  intro s t hs h
  obtain ⟨htimer, hplay⟩ := streamInv_iff.1 hs
  refine streamInv_iff.2 ⟨everyStepKeepsTheTimerInPlay s t htimer h, ?_⟩
  have hturn : Playable (takeTurn s) := hplay.takeTurn
  have hline : Playable (popLine (takeTurn s)) := hturn.of_same rfl rfl rfl rfl
  obtain ⟨-, -, hread | hreserved | hissue | hframe | hctl | hack | hfault | hemit⟩ :=
    step_next_cases h
  · obtain ⟨-, n, _, -, rfl⟩ := hread
    exact hline.hostRead n
  · obtain ⟨-, _, _, _, -, -, rfl⟩ := hreserved
    exact hline.of_same rfl rfl rfl rfl
  · obtain ⟨-, _, _, _, -, hd, hx⟩ := hissue
    exact hline.of_issue (decodeWord_port hd) hx
  · obtain ⟨-, _, _, _, -, hd, hx⟩ := hframe
    exact hturn.of_frame (decodeWord_port hd) hx
  · obtain ⟨-, -, rfl⟩ := hctl
    exact hturn.ctlStep
  · obtain ⟨-, -, rfl⟩ := hack
    exact hturn
  · obtain ⟨-, _, -, rfl⟩ := hfault
    exact hturn.of_same rfl rfl rfl rfl
  · obtain ⟨hm, w, ht, rfl⟩ := hemit
    have hloop : inPlayLoop (takeTurn s).k = true := by
      rw [takeTurn_k, ← htimer.2, timerArmed_of_mover_emt hm]
    exact (hturn.tickCommit hloop ((tick_takeTurn s).trans ht)).of_same rfl rfl rfl rfl

/-- A tick's commit moves `STATUS` from Ready to Filling only (10_state.md R30). -/
theorem tickCommit_status {s : State} (h : s.fifo.status = statusReady ∨ s.fifo.status = statusFilling) :
    (tickCommit s).fifo.status = s.fifo.status ∨
      s.fifo.status = statusReady ∧ (tickCommit s).fifo.status = statusFilling := by
  rw [tickCommit_fifo_status]
  split_ifs
  · exact h.symm.imp Eq.symm fun hready => ⟨hready, rfl⟩
  · exact .inl rfl

/-- Settles O50: EMT's step acknowledges, faults or emits, and only the swap of an emitting tick writes `STATUS`. -/
theorem tickWritesOnlyItsRegisters : Obligations.TickWritesOnlyItsRegisters := by
  intro s t hs hm h
  have hswap := tickCommit_status (streamInv_iff.1 hs).2.takeTurn.bounds.status
  obtain ⟨-, -, hc⟩ := step_next_cases h
  simp only [hm, Option.some.injEq, reduceCtorEq, false_and, false_or, true_and] at hc
  obtain ⟨-, rfl⟩ | ⟨_, -, rfl⟩ | ⟨_, -, rfl⟩ := hc
  · simp
  · simp
  · simpa [-tickCommit_fifo_status, statusReady, statusFilling] using hswap

/-! ### CTL beside the active buffer -/

/-- What CTL leaves alone while the timer is armed, and when it writes the other buffer and `STATUS` (10_state.md R39). -/
def LeavesActive (s t : State) : Prop :=
  t.fifo.act = s.fifo.act ∧ t.fifo.cur = s.fifo.cur ∧ t.fifo.endp = s.fifo.endp ∧
  t.fifo.played = s.fifo.played ∧ t.fmt = s.fmt ∧ t.dac = s.dac ∧
  t.fifo.buf s.fifo.act = s.fifo.buf s.fifo.act ∧ t.fifo.len s.fifo.act = s.fifo.len s.fifo.act ∧
  (t.fifo.buf s.fifo.act.other = s.fifo.buf s.fifo.act.other ∧
      t.fifo.len s.fifo.act.other = s.fifo.len s.fifo.act.other ∨
    s.k = .refill s.fifo.act.other ∧ s.fifo.status = statusFilling) ∧
  (t.fifo.status = s.fifo.status ∨ (s.fifo.status = statusFilling ∧ t.fifo.status = statusReady))

section
variable {s t : State}

theorem LeavesActive.of_same (hfifo : t.fifo = s.fifo := by rfl) (hfmt : t.fmt = s.fmt := by rfl)
    (hdac : t.dac = s.dac := by rfl) : LeavesActive s t := by
  simp [LeavesActive, hfifo, hfmt, hdac]

/-- A refill writes the buffer it is aimed at alone, the one not in `ACT`. -/
theorem stepRefill_leavesActive {b : BufId} (hk : s.k = .refill b)
    (hst : s.fifo.status = statusFilling) (hb : b = s.fifo.act.other) :
    LeavesActive s (stepRefill b s) := by
  subst hb
  unfold stepRefill
  split <;> simp [LeavesActive, Fifo.buf_setBuf, Fifo.len_setLen, hk, hst]

theorem stepRefillReady_leavesActive (hst : s.fifo.status = statusFilling) :
    LeavesActive s (stepRefillReady s) :=
  ⟨rfl, rfl, rfl, rfl, rfl, rfl, by cases s.fifo.act <;> rfl, by cases s.fifo.act <;> rfl,
    .inl ⟨by cases s.fifo.act <;> rfl, by cases s.fifo.act <;> rfl⟩, .inr ⟨hst, rfl⟩⟩

/-- In PLAY's loop only the refill and the write of `STATUS` after it write the FIFO. -/
theorem ctlStep_leavesActive (h : Playable s) (hloop : inPlayLoop s.k = true) :
    LeavesActive s (ctlStep s) := by
  have hp := h.point
  unfold playPoint at hp
  unfold ctlStep
  cases hk : s.k with rw [hk] at hp hloop
  | loopPlayed => simp only [stepLoopPlayed]; split_ifs <;> exact .of_same
  | loopStatus => simp only [stepLoopStatus]; split_ifs <;> exact .of_same
  | refill b =>
    obtain ⟨-, -, hst, hb⟩ := hp
    exact stepRefill_leavesActive hk hst hb
  | refillReady => exact stepRefillReady_leavesActive hp.2.2
  | playFail e => exact .of_same
  | _ => cases hloop

theorem LeavesActive.of_takeTurn (h : LeavesActive (takeTurn s) t) : LeavesActive s t := by
  obtain ⟨_, _, e⟩ := takeTurn_eq s
  rw [e] at h
  exact h

/-- A step of CTL with the timer armed is one of its own, at a point of PLAY's loop. -/
theorem ctlStep_of_armed (hs : TimerInv s) (harmed : s.timerArmed = true)
    (hm : mover s = some .ctl) (h : step s = .next t) :
    inPlayLoop s.k = true ∧ t = ctlStep (takeTurn s) := by
  have hloop : inPlayLoop s.k = true := hs.2 ▸ harmed
  refine ⟨hloop, ?_⟩
  obtain ⟨-, -, hc⟩ := step_next_cases h
  simp only [hm, Option.some.injEq, reduceCtorEq, false_and, false_or, true_and, or_false] at hc
  obtain ⟨_, _, _, hk, -⟩ | ⟨-, ht⟩ := hc
  · rw [hk] at hloop
    cases hloop
  · exact ht

end

/-- Settles O51: with the timer armed CTL is in PLAY's loop, where its step leaves the active buffer. -/
theorem ctlLeavesTheActiveBuffer : Obligations.CtlLeavesTheActiveBuffer := by
  intro s t hs harmed hm h
  obtain ⟨htimer, hplay⟩ := streamInv_iff.1 hs
  obtain ⟨hloop, rfl⟩ := ctlStep_of_armed htimer harmed hm h
  exact (ctlStep_leavesActive hplay.takeTurn (takeTurn_k s ▸ hloop)).of_takeTurn

/-! ## HOST's register reads -/

/-- The register of a number is the table's entry, and there is none beyond the table (10_state.md R37). -/
theorem hostRegister_eq_registerTable (s : State) (n : Byte) :
    hostRegister s n = (registerTable s)[n.toNat]? := by
  obtain hn | hn := Nat.lt_or_ge n.toNat 16
  · obtain ⟨j, hj, rfl⟩ : ∃ j < 16, n = BitVec.ofNat 8 j := ⟨n.toNat, hn, by simp⟩
    interval_cases j <;> rfl
  · have hne (j : Nat) (hj : j < 16) : n ≠ BitVec.ofNat 8 j := by
      rintro rfl
      rw [BitVec.toNat_ofNat] at hn
      omega
    rw [List.getElem?_eq_none hn]
    simp [hostRegister, hne]

/-- HOST has a step on a line exactly while `BUSY = 0`. -/
theorem hasStep_host_of_line {s : State} {line : HostLine} {more : List HostLine}
    (hp : s.env.program = line :: more) : hasStep s .host = !s.busy := by
  simp [hasStep, hostHasStep, hp]

theorem hostRegister_takeTurn (s : State) (n : Byte) :
    hostRegister (popLine (takeTurn s)) n = hostRegister s n := by
  obtain ⟨_, _, e⟩ := takeTurn_eq s
  rw [e]
  rfl

/-- Settles O20: a read's step is `hostRead`, and the register it asks for is the table's. -/
theorem hostReadsTheRegisterTable : Obligations.HostReadsTheRegisterTable := by
  intro s n more hs hp
  have hstep (hm : mover s = some .host) : step s = .next (hostRead n (popLine (takeTurn s))) :=
    (stepsThatFetchNothing s hs).1 n more hm hp
  have hreg : hostRegister (popLine (takeTurn s)) n = (registerTable s)[n.toNat]? :=
    (hostRegister_takeTurn s n).trans (hostRegister_eq_registerTable s n)
  have hline : popLine (takeTurn s) =
      { takeTurn s with env := { (takeTurn s).env with program := more } } := by
    rw [popLine, takeTurn_env_program, hp, List.tail_cons]
  refine ⟨hasStep_host_of_line hp, fun hm => ?_, fun v hm hv => ?_, fun hm hn => ?_⟩
  · have hh := hasStep_of_mover hm
    rwa [hasStep_host_of_line hp, Bool.not_eq_true'] at hh
  · rw [hstep hm, hostRead, hreg, hv, hline]
  · have hnone : (registerTable s)[n.toNat]? = none := List.getElem?_eq_none hn
    rw [hstep hm, hostRead, hreg, hnone, hline]
    rfl

end Sys2Proof.Machine
end

section
/-! SUPPORT. The statements on memories and the DAC port (20_memory.md): what a step does to destination memory and the
audio buffers, said once, the stop at a forbidden destination byte, and the order of a frame's bits. -/

namespace Sys2Proof.Machine

/-! ## What a step does to the memories -/

/-- The step leaves destination memory and both buffers. -/
def KeepsMemories (s t : State) : Prop :=
  t.mem = s.mem ∧ ∀ j, t.fifo.buf j = s.fifo.buf j

/-- The step receives a byte that READP copies, and stores it at the receive's address (41_block_read.md R175). -/
def CopiesByte (s t : State) : Prop :=
  ∃ i b, s.k = .payload i ∧ copiesByte s.latch i ∧
    t.mem = s.mem.write (copyAddress s.latch i) b ∧
    t.hist = s.hist ++ [.busX s.sdCs filler b] ∧ t.fifo = s.fifo

/-- The step puts a file-read answer into one buffer (20_memory.md R66). -/
def FillsBuffer (s t : State) : Prop :=
  t.mem = s.mem ∧
    ∃ k ans, ∀ j, t.fifo.buf j = if j = k then fillBuffer (s.fifo.buf k) ans else s.fifo.buf j

/-- Everything a step can do to the memories. -/
def MemoryEffect (s t : State) : Prop :=
  KeepsMemories s t ∨ CopiesByte s t ∨ FillsBuffer s t

section
variable {s t : State}

theorem KeepsMemories.of_same (hmem : t.mem = s.mem := by rfl) (hfifo : t.fifo = s.fifo := by rfl) :
    KeepsMemories s t :=
  ⟨hmem, fun _ => by rw [hfifo]⟩

theorem MemoryEffect.of_same (hmem : t.mem = s.mem := by rfl) (hfifo : t.fifo = s.fifo := by rfl) :
    MemoryEffect s t :=
  .inl (.of_same hmem hfifo)

/-- Taking the schedule's turn leaves all that an effect speaks of. -/
theorem MemoryEffect.of_takeTurn (h : MemoryEffect (takeTurn s) t) : MemoryEffect s t := by
  obtain ⟨_, _, e⟩ := takeTurn_eq s
  rw [e] at h
  exact h

end

/-! ### CTL's steps that branch -/

theorem fileRead_fillsBuffer (k : BufId) (n : Nat) (s : State) : FillsBuffer s (fileRead k n s) :=
  ⟨rfl, k, _, fun j => Fifo.buf_setBuf s.fifo k j _⟩

/-- The count's write of `LEN` leaves what the file read did. -/
theorem setLen_fileRead_fillsBuffer (k : BufId) (n len : Nat) (s : State) :
    FillsBuffer s (setLen k len (fileRead k n s)) := by
  obtain ⟨hmem, k', ans, hbuf⟩ := fileRead_fillsBuffer k n s
  exact ⟨hmem, k', ans, fun j => (Fifo.setLen_buf _ k j len).trans (hbuf j)⟩

theorem stepPrimeA_fillsBuffer (s : State) : FillsBuffer s (stepPrimeA s) := by
  unfold stepPrimeA
  split
  next => exact fileRead_fillsBuffer .bufA s.cfg.bufSize s
  next bytes _ =>
    split_ifs <;> exact setLen_fileRead_fillsBuffer .bufA s.cfg.bufSize bytes.length s

theorem stepPrimeB_fillsBuffer (s : State) : FillsBuffer s (stepPrimeB s) := by
  unfold stepPrimeB
  split
  next => exact fileRead_fillsBuffer .bufB s.cfg.bufSize s
  next bytes _ => exact setLen_fileRead_fillsBuffer .bufB s.cfg.bufSize bytes.length s

theorem stepRefill_fillsBuffer (b : BufId) (s : State) : FillsBuffer s (stepRefill b s) := by
  unfold stepRefill
  split
  next => exact fileRead_fillsBuffer b s.cfg.bufSize s
  next bytes _ => exact setLen_fileRead_fillsBuffer b s.cfg.bufSize bytes.length s

theorem stepPayload_memoryEffect {s : State} {i : Nat} (hk : s.k = .payload i) :
    MemoryEffect s (stepPayload i s) := by
  unfold stepPayload
  split_ifs with hcopy
  · exact .inr (.inl ⟨i, rxByte s, hk, hcopy, rfl, rfl, rfl⟩)
  · exact .of_same

theorem stepStart_keepsMemories (op : HostOp) (s : State) : KeepsMemories s (stepStart op s) := by
  cases op with
  | init | writepInit | writepAppend | writepFinal => exact .of_same
  | readp => simp only [stepStart, stepReadpStart]; split_ifs <;> exact .of_same
  | loadfmt => simp only [stepStart, stepLoadfmt]; split_ifs <;> exact .of_same
  | play => simp only [stepStart, stepPlayStart]; split_ifs <;> exact .of_same

/-! ### Every agent's step -/

/-- CTL writes memories at two kinds of point: a payload receive, and PLAY's file reads. -/
theorem ctlStep_memoryEffect (s : State) : MemoryEffect s (ctlStep s) := by
  unfold ctlStep
  cases hk : s.k with
  | payload i => exact stepPayload_memoryEffect hk
  | primeA => exact .inr (.inr (stepPrimeA_fillsBuffer s))
  | primeB => exact .inr (.inr (stepPrimeB_fillsBuffer s))
  | refill b => exact .inr (.inr (stepRefill_fillsBuffer b s))
  | start op => exact .inl (stepStart_keepsMemories op s)
  | transmit rest ret => cases rest <;> exact .of_same
  | releaseDummy e => cases e <;> exact .of_same
  | loopPlayed => simp only [stepLoopPlayed]; split_ifs <;> exact .of_same
  | loopStatus => simp only [stepLoopStatus]; split_ifs <;> exact .of_same
  | primeSet | refillReady => exact .inl ⟨rfl, fun j => by cases j <;> rfl⟩
  | _ => exact .of_same

/-- No instruction writes a memory: only CTL's own steps do. -/
theorem exec_keepsMemories {i : Instr} {s t : State} (h : exec i s = .next t) :
    KeepsMemories s t := by
  cases hp : i.port with
  | sdcmd48 =>
    rw [exec_of_sdcmd48 s hp] at h
    obtain ⟨_, _, _, rfl⟩ := beginFrame_next h
    exact .of_same
  | dac16 =>
    obtain ⟨w, hw⟩ := exec_of_dac16 s hp
    rw [hw] at h
    cases h
    exact .of_same
  | hostop =>
    obtain ⟨op, l, hi⟩ := exec_of_hostop s hp
    rw [hi] at h
    obtain ⟨_, _, _, rfl⟩ := issue_next h
    exact .of_same

theorem hostRead_keepsMemories (n : Byte) (s : State) : KeepsMemories s (hostRead n s) := by
  unfold hostRead
  split <;> exact .of_same

theorem tickCommit_keepsMemories (s : State) : KeepsMemories s (tickCommit s) :=
  ⟨rfl, fun j => by cases j <;> rfl⟩

/-- What a step of any agent can do to the memories. -/
theorem step_memoryEffect {s t : State} (h : step s = .next t) : MemoryEffect s t := by
  suffices hu : MemoryEffect (takeTurn s) t from hu.of_takeTurn
  obtain ⟨-, -, hread | hreserved | hissue | hframe | hctl | hack | hfault | hemit⟩ :=
    step_next_cases h
  · obtain ⟨-, n, _, -, rfl⟩ := hread
    exact .inl (hostRead_keepsMemories n (popLine (takeTurn s)))
  · obtain ⟨-, _, _, _, -, -, rfl⟩ := hreserved
    exact .of_same
  · obtain ⟨-, _, _, _, -, -, hx⟩ := hissue
    have hline : KeepsMemories (popLine (takeTurn s)) t := exec_keepsMemories hx
    exact .inl hline
  · obtain ⟨-, _, _, _, -, -, hx⟩ := hframe
    exact .inl (exec_keepsMemories hx)
  · obtain ⟨-, -, rfl⟩ := hctl
    exact ctlStep_memoryEffect _
  · obtain ⟨-, -, rfl⟩ := hack
    exact .of_same
  · obtain ⟨-, _, -, rfl⟩ := hfault
    exact .of_same
  · obtain ⟨-, _, -, rfl⟩ := hemit
    exact .inl (tickCommit_keepsMemories (takeTurn s))

/-- The canonical form, for both buffers at once. -/
theorem memoryInv_iff {s : State} : MemoryInv s ↔ s.mem.wf ∧ ∀ k, (s.fifo.buf k).wf := by
  refine and_congr_right fun _ => ⟨fun ⟨hA, hB⟩ k => ?_, fun h => ⟨h .bufA, h .bufB⟩⟩
  cases k
  · exact hA
  · exact hB

/-- Settles O52: a step writes one byte of destination memory or fills one buffer, and both writes keep the form. -/
theorem everyStepKeepsMemoryForm : Obligations.EveryStepKeepsMemoryForm := by
  intro s t hs h
  obtain ⟨hwf, hbufs⟩ := memoryInv_iff.1 hs
  refine memoryInv_iff.2 ?_
  obtain ⟨hmem, hbuf⟩ | ⟨i, b, -, -, hmem, -, hfifo⟩ | ⟨hmem, k, ans, hbuf⟩ := step_memoryEffect h
  · exact ⟨hmem ▸ hwf, fun j => hbuf j ▸ hbufs j⟩
  · exact ⟨hmem ▸ Memory.wf_write _ b hwf, hfifo ▸ hbufs⟩
  · refine ⟨hmem ▸ hwf, fun j => ?_⟩
    rw [hbuf j]
    split_ifs
    · exact Memory.wf_fillBuffer ans (hbufs k)
    · exact hbufs j

/-- Settles O43: of the effects a step can have, only a copied receive writes destination memory, one byte of it. -/
theorem onlyCopiesWriteMemory : Obligations.OnlyCopiesWriteMemory := by
  intro s t h a
  obtain ⟨hmem, -⟩ | ⟨i, b, hk, hcopy, hmem, hhist, -⟩ | ⟨hmem, -⟩ := step_memoryEffect h
  · exact .inl (by rw [hmem])
  · by_cases ha : copyAddress s.latch i = a
    · exact .inr ⟨i, b, hk, hcopy, ha.symm, by rw [hmem, Memory.read_write, if_pos ha], hhist⟩
    · exact .inl (by rw [hmem, Memory.read_write, if_neg ha])
  · exact .inl (by rw [hmem])

/-! ## The stop at a forbidden destination byte -/

theorem mover_eq_none {s : State} (h : ∀ a, hasStep s a = false) : mover s = none := by
  simp [mover, enabledAgents, h]

/-- Where no agent has a step, the machine stops under the name of what holds it (log 15). -/
theorem step_of_no_mover {s : State} (hs : NoFault s) (hm : mover s = none) :
    step s = .fault (noStepReason s) := by
  obtain ⟨hf, hr⟩ := hs
  simp [step, fetch, hf, hr, hm]

/-- CTL is stuck at a receive it must store where `DestOK` is false. -/
theorem ctlHasStep_of_forbidden {s : State} {i : Nat} (hk : s.k = .payload i)
    (hcopy : copiesByte s.latch i) (hdest : destOk s.cfg (copyAddress s.latch i) = false) :
    ctlHasStep s = false := by
  have hstuck : payloadStuck i s = true := by
    rw [payloadStuck, decide_eq_true hcopy, hdest]
    rfl
  simp only [ctlHasStep, hk, hstuck, Bool.not_true]

/-- Settles O42: CTL is stuck, HOST waits for `BUSY` and the timer is off, so no agent moves. -/
theorem forbiddenDestinationStops : Obligations.ForbiddenDestinationStops := by
  intro s i ⟨hs, hbusy, hunarmed⟩ hk hen hlo hhi hdest
  have hctl : ctlHasStep s = false := ctlHasStep_of_forbidden hk ⟨hen, hlo, hhi⟩ hdest
  refine ⟨hctl, ?_⟩
  have hnone : ∀ a, hasStep s a = false
    | .host => hostHasStep_of_busy hbusy
    | .ctl => hctl
    | .emt => by simp [hasStep, emtHasStep, hunarmed]
  rw [step_of_no_mover hs (mover_eq_none hnone)]
  simp [noStepReason, hk]

/-! ## The order of a frame's bits -/

/-- Bits `n - 1` down to 0 clocked out from a low clock are sampled in that order, and the closing chip-select
samples none. -/
theorem sampledBits_clockOut (w : Half) (n : Nat) {d : DacLines} (hd : d.sck = false) :
    sampledBits d (clockOut w n ++ [.cs .deasserted]) =
      (List.range n).map fun j => w.getLsbD (n - 1 - j) := by
  induction n generalizing d with
  | zero => simp [clockOut, sampledBits, driveDac, hd]
  | succ n ih =>
    have hpulse : sampledBits d (clockOut w (n + 1) ++ [.cs .deasserted]) =
        w.getLsbD n :: sampledBits { d with sdi := w.getLsbD n, sck := false }
          (clockOut w n ++ [.cs .deasserted]) := by
      simp [clockOut, sampledBits, driveDac, hd]
    rw [hpulse, ih rfl, List.range_succ_eq_map, List.map_cons, List.map_map]
    simp [Function.comp_def, Nat.sub_sub, Nat.add_comm]

/-- Settles O15: the opening chip-select leaves the clock low, and then all 16 bits are clocked out. -/
theorem dacFrameGoesBit15First : Obligations.DacFrameGoesBit15First := by
  intro w d hd
  have hcs : sampledBits d (dacActs w) =
      sampledBits { d with cs := .asserted } (clockOut w 16 ++ [.cs .deasserted]) := by
    simp only [dacActs, sampledBits, driveDac, hd, Bool.false_eq_true, false_and, if_false]
  exact hcs.trans (sampledBits_clockOut w 16 hd)

end Sys2Proof.Machine
end

section
/-! SUPPORT. The encoding statements (30_encoding.md): each format's decoder inverts the encoder both ways, and the frames
CTL sends are commands of the opcode map, at every call and through every step. -/

namespace Sys2Proof

/-! ## Operands and their bytes -/

/-- A bit string is its top part and then the rest. -/
theorem top_append_rest {m n : Nat} (x : BitVec (m + n)) :
    x.extractLsb' n m ++ x.extractLsb' 0 n = x := by
  rw [BitVec.extractLsb'_append_extractLsb'_eq_extractLsb' (Nat.zero_add n).symm]
  exact BitVec.extractLsb'_eq_self

@[simp] theorem wordOfBytes_bytesOfWord (w : Word) :
    wordOfBytes (w.extractLsb' 24 8) (w.extractLsb' 16 8) (w.extractLsb' 8 8) (w.extractLsb' 0 8) =
      w := by
  unfold wordOfBytes
  iterate 3 rw [BitVec.extractLsb'_append_extractLsb'_eq_extractLsb' (by rfl)]
  exact BitVec.extractLsb'_eq_self

@[simp] theorem bytesOfWord_wordOfBytes (a b c d : Byte) :
    bytesOfWord (wordOfBytes a b c d) = [a, b, c, d] := by
  simp only [bytesOfWord, wordOfBytes, List.cons.injEq, and_true]
  refine ⟨?_, ?_, ?_, ?_⟩ <;> (ext i hi; simp; grind)

/-- Two bits in a byte of their own and eight more are the ten bits of an operand. -/
theorem tenOfBytes_setWidth (hi : BitVec 2) (lo : Byte) :
    tenOfBytes (hi.setWidth 8) lo = some (hi ++ lo) := by
  have hlt : (hi.setWidth 8).toNat < 4 := by
    rw [BitVec.toNat_setWidth_of_le (by decide)]
    exact hi.isLt
  have happend : (hi.setWidth 8 ++ lo).setWidth 10 = hi ++ lo := by
    ext j hj; simp; grind
  rw [tenOfBytes, if_pos hlt, happend]

@[simp] theorem tenOfBytes_bytesOfTen (n : BitVec 10) :
    tenOfBytes ((n.extractLsb' 8 2).setWidth 8) (n.extractLsb' 0 8) = some n := by
  rw [tenOfBytes_setWidth]
  exact congrArg some (top_append_rest (m := 2) (n := 8) n)

theorem bytesOfTen_of_tenOfBytes {hi lo : Byte} {n : BitVec 10} (h : tenOfBytes hi lo = some n) :
    bytesOfTen n = [hi, lo] := by
  have hlt : hi.toNat < 4 := by
    by_contra hge
    rw [tenOfBytes, if_neg hge] at h
    cases h
  obtain ⟨top, rfl⟩ : ∃ top : BitVec 2, hi = top.setWidth 8 := ⟨hi.setWidth 2, by bv_omega⟩
  rw [tenOfBytes_setWidth] at h
  cases h
  have htop : (top ++ lo).extractLsb' 8 2 = top := BitVec.extractLsb'_append_eq_left
  have hlow : (top ++ lo).extractLsb' 0 8 = lo := BitVec.extractLsb'_append_eq_right
  rw [bytesOfTen, htop, hlow]

@[simp] theorem flagOfByte_byteOfFlag (f : Bool) : flagOfByte (byteOfFlag f) = some f := by
  cases f <;> rfl

theorem byteOfFlag_of_flagOfByte {b : Byte} {f : Bool} (h : flagOfByte b = some f) :
    byteOfFlag f = b := by
  unfold flagOfByte at h
  split_ifs at h with h0 h1 <;> cases h
  · exact h0.symm
  · exact h1.symm

theorem startByte_inj {a b : BitVec 6} : startByte a = startByte b ↔ a = b := by
  revert a b
  decide

/-! ## What is encoded decodes -/

/-- A frame's six bytes are decoded as its start byte, argument and CRC/stop byte. -/
theorem decodeSd_sdFrame {idx : BitVec 6} {arg : Word} {crc : Byte} {i : Instr} (rest : List Byte)
    (h : decodeFrame (startByte idx) arg crc = .ok i) :
    decodeSd (sdFrame idx arg crc ++ rest) = .ok (i, rest) := by
  simp [sdFrame, bytesOfWord, decodeSd, h]

/-- A command is the frame of some index, argument and CRC/stop byte, and the opcode map reads it back (R85). -/
theorem decodeFrame_of_encode {i : Instr} (h : i.port = .sdcmd48) :
    ∃ idx arg crc, encode i = sdFrame idx arg crc ∧ decodeFrame (startByte idx) arg crc = .ok i := by
  cases i with
  | cmd0 | cmd1 | cmd8 | cmd16 | cmd17 | cmd55 | acmd41Hcs | acmd41Zero | cmd58 =>
    exact ⟨_, _, _, rfl, by simp [decodeFrame, startByte_inj, argHcs]⟩
  | _ => cases h

theorem decodeSd_encode {i : Instr} (rest : List Byte) (h : i.port = .sdcmd48) :
    decodeSd (encode i ++ rest) = .ok (i, rest) := by
  obtain ⟨idx, arg, crc, he, hd⟩ := decodeFrame_of_encode h
  rw [he]
  exact decodeSd_sdFrame rest hd

theorem decodeDac_encode (ctrl : BitVec 4) (data : BitVec 12) (rest : List Byte) :
    decodeDac (encode (.dacWrite ctrl data) ++ rest) = .ok (.dacWrite ctrl data, rest) := by
  have hctrl : (ctrl ++ data.extractLsb' 8 4).extractLsb' 4 4 = ctrl :=
    BitVec.extractLsb'_append_eq_left
  have hhigh : (ctrl ++ data.extractLsb' 8 4).extractLsb' 0 4 = data.extractLsb' 8 4 :=
    BitVec.extractLsb'_append_eq_right
  have hdata : data.extractLsb' 8 4 ++ data.extractLsb' 0 8 = data :=
    top_append_rest (m := 4) (n := 8) data
  simp only [encode, List.cons_append, List.nil_append, decodeDac, hctrl, hhigh, hdata]

/-- A host operation's code selects its operands' decoder, which reads them back (R100, log 7). -/
theorem decodeHost_encode {i : Instr} (rest : List Byte) (h : i.port = .hostop) :
    decodeHost (encode i ++ rest) = .ok (i, rest) := by
  cases i with
  | init | writepFinal | play => rfl
  | readp | writepInit | writepAppend | loadfmt =>
    simp [encode, decodeHost, codeInit, codeReadp, codeWritepInit, codeWritepAppend,
      codeWritepFinal, codeLoadfmt, decodeReadp, decodeWritepInit, decodeWritepAppend,
      decodeLoadfmt, bytesOfWord, bytesOfTen]
  | _ => cases h

/-! ## What decodes was encoded -/

theorem encode_of_decodeFrame {start crc : Byte} {arg : Word} {i : Instr}
    (h : decodeFrame start arg crc = .ok i) : encode i = start :: (bytesOfWord arg ++ [crc]) := by
  unfold decodeFrame at h
  split_ifs at h with h0 h1 h8 h16 h17 h55 hhcs hzero h58 <;> cases h
  · obtain ⟨rfl, rfl, rfl⟩ := h0; rfl
  · obtain ⟨rfl, rfl⟩ := h1; rfl
  · obtain ⟨rfl, rfl, rfl⟩ := h8; rfl
  · obtain ⟨rfl, rfl⟩ := h16; rfl
  · obtain rfl := h17; rfl
  · obtain ⟨rfl, rfl⟩ := h55; rfl
  · obtain ⟨rfl, rfl⟩ := hhcs; rfl
  · obtain ⟨rfl, rfl⟩ := hzero; rfl
  · obtain ⟨rfl, rfl⟩ := h58; rfl

theorem encode_of_decodeSd {bytes rest : List Byte} {i : Instr}
    (h : decodeSd bytes = .ok (i, rest)) : encode i ++ rest = bytes := by
  unfold decodeSd at h
  split at h
  next =>
    split at h
    next j hj =>
      cases h
      simp [encode_of_decodeFrame hj]
    next => cases h
  next => cases h

theorem encode_of_decodeDac {bytes rest : List Byte} {i : Instr}
    (h : decodeDac bytes = .ok (i, rest)) : encode i ++ rest = bytes := by
  unfold decodeDac at h
  split at h
  next hi lo rest =>
    cases h
    have hhigh : (hi.extractLsb' 0 4 ++ lo).extractLsb' 8 4 = hi.extractLsb' 0 4 :=
      BitVec.extractLsb'_append_eq_left
    have hlow : (hi.extractLsb' 0 4 ++ lo).extractLsb' 0 8 = lo :=
      BitVec.extractLsb'_append_eq_right
    have hhi : hi.extractLsb' 4 4 ++ hi.extractLsb' 0 4 = hi := top_append_rest (m := 4) (n := 4) hi
    rw [encode, hhigh, hlow, hhi]
    rfl
  next => cases h

theorem encode_of_decodeReadp {bytes rest : List Byte} {i : Instr}
    (h : decodeReadp bytes = .ok (i, rest)) : encode i ++ rest = codeReadp :: bytes := by
  unfold decodeReadp at h
  split at h
  next =>
    split at h
    next hoffset hcount hflag =>
      cases h
      simp [encode, bytesOfTen_of_tenOfBytes hoffset, bytesOfTen_of_tenOfBytes hcount,
        byteOfFlag_of_flagOfByte hflag]
    next => cases h
  next => cases h

theorem encode_of_decodeWritepInit {bytes rest : List Byte} {i : Instr}
    (h : decodeWritepInit bytes = .ok (i, rest)) :
    encode i ++ rest = codeWritepInit :: bytes := by
  unfold decodeWritepInit at h
  split at h <;> cases h
  simp [encode]

theorem encode_of_decodeWritepAppend {bytes rest : List Byte} {i : Instr}
    (h : decodeWritepAppend bytes = .ok (i, rest)) :
    encode i ++ rest = codeWritepAppend :: bytes := by
  unfold decodeWritepAppend at h
  split at h <;> cases h
  simp [encode]

theorem encode_of_decodeLoadfmt {bytes rest : List Byte} {i : Instr}
    (h : decodeLoadfmt bytes = .ok (i, rest)) : encode i ++ rest = codeLoadfmt :: bytes := by
  unfold decodeLoadfmt at h
  split at h <;> cases h
  simp [encode]

theorem encode_of_decodeHost {bytes rest : List Byte} {i : Instr}
    (h : decodeHost bytes = .ok (i, rest)) : encode i ++ rest = bytes := by
  cases bytes with
  | nil => cases h
  | cons code operands =>
    simp only [decodeHost] at h
    split_ifs at h with hinit hreadp hwinit happend hfinal hloadfmt hplay
    · cases h; rw [hinit]; rfl
    · rw [hreadp, encode_of_decodeReadp h]
    · rw [hwinit, encode_of_decodeWritepInit h]
    · rw [happend, encode_of_decodeWritepAppend h]
    · cases h; rw [hfinal]; rfl
    · rw [hloadfmt, encode_of_decodeLoadfmt h]
    · cases h; rw [hplay]; rfl

/-- At every port: the bytes are the encoding of what they decode to, and then the bytes after it. -/
theorem encode_of_decode {p : Port} {bytes rest : List Byte} {i : Instr}
    (h : decode p bytes = .ok (i, rest)) : encode i ++ rest = bytes := by
  cases p with
  | sdcmd48 => exact encode_of_decodeSd h
  | dac16 => exact encode_of_decodeDac h
  | hostop => exact encode_of_decodeHost h

/-- A word decodes where its port's decoder leaves no byte after it. -/
theorem decodeWord_eq_ok {p : Port} {bytes : List Byte} {i : Instr} :
    decodeWord p bytes = .ok i ↔ decode p bytes = .ok (i, []) := by
  unfold decodeWord
  split
  next hd => simp [hd]
  next hd => simp [hd]
  next hd => simp [hd]

end Sys2Proof

namespace Sys2Proof.Machine

/-! ## The statements on the decoder -/

/-- Settles O1, one decoder per port. -/
theorem decodeEncodeAgree : Obligations.DecodeEncodeAgree := by
  intro i rest
  cases hp : i.port with
  | sdcmd48 => exact decodeSd_encode rest hp
  | dac16 =>
    cases i with
    | dacWrite ctrl data => exact decodeDac_encode ctrl data rest
    | _ => cases hp
  | hostop => exact decodeHost_encode rest hp

/-- An instruction's own bytes are one word, that instruction. -/
theorem decodeWord_encode (i : Instr) : decodeWord i.port (encode i) = .ok i := by
  have h := decodeEncodeAgree i []
  rw [List.append_nil] at h
  exact decodeWord_eq_ok.2 h

/-- Settles O2: a word leaves no byte after it, so its bytes are the encoding alone. -/
theorem decodedBytesAreTheEncoding : Obligations.DecodedBytesAreTheEncoding := by
  intro p bytes i h
  have hbytes : encode i ++ [] = bytes := encode_of_decode (decodeWord_eq_ok.1 h)
  exact ⟨(List.append_nil _).symm.trans hbytes, decodeWord_port h⟩

/-- Settles O3: each row of bytes is the encoding of its instruction. -/
theorem specWordsDecode : Obligations.SpecWordsDecode :=
  ⟨decodeWord_encode .cmd0, decodeWord_encode .cmd8, decodeWord_encode (.cmd16 0x01),
    decodeWord_encode (.cmd17 0x600 0x01), decodeWord_encode (.acmd41Hcs 0x01),
    decodeWord_encode (.dacWrite 0x3 0x923), decodeWord_encode .init,
    decodeWord_encode (.loadfmt 8 8000 4), decodeWord_encode .play⟩

/-- A code that is no host operation's is refused by name, whatever its operand bytes (R101). -/
theorem decodeWord_hostop_reserved {code : Byte} (operands : List Byte)
    (h : code = 0x00#8 ∨ 8 ≤ code.toNat) :
    decodeWord .hostop (code :: operands) = .error (.reservedOp code) := by
  have hne (j : Nat) (hlo : 1 ≤ j) (hhi : j ≤ 7) : code ≠ BitVec.ofNat 8 j := by
    rintro rfl
    bv_omega
  have hd : decode .hostop (code :: operands) = .error (.reservedOp code) := by
    simp [decode, decodeHost, codeInit, codeReadp, codeWritepInit, codeWritepAppend,
      codeWritepFinal, codeLoadfmt, codePlay, hne]
  simp only [decodeWord, hd]

/-- Settles O5: HOST fetches the line past which it has moved, and its bytes are rejected as a reserved code. -/
theorem reservedHostCodeRefuses : Obligations.ReservedHostCodeRefuses := by
  intro s code operands more ⟨hf, hr⟩ hm hp hcode
  have hp' : (takeTurn s).env.program = .issue (code :: operands) :: more :=
    (takeTurn_env_program s).trans hp
  have hfetch : agentFetch (takeTurn s) .host =
      .word .hostop (code :: operands) (popLine (takeTurn s)) := hostFetch_of_issue hp'
  rw [step_of_mover hf hr hm, hfetch]
  simp only [afterFetch, decodeWord_hostop_reserved operands hcode, rejectWord]
  simp [issueReserved, refuse, record, popLine, hp]

/-! ## The frames of SendCmd -/

/-- With the placeholder's end bit set, the frame at a call is a well-formed command's. -/
theorem calledFrame_eq_encode {p : Params} {frame : List Byte} {ret : Ret}
    (hp : p.crcPlaceholder.getLsbD 0 = true) (h : calledFrame p frame ret) :
    ∃ i, i.wellFormed = true ∧ i.port = .sdcmd48 ∧ frame = encode i := by
  cases ret with
  | solo => exact h.elim
  | goIdle => exact ⟨.cmd0, rfl, rfl, h⟩
  | ifCond => exact ⟨.cmd8, rfl, rfl, h⟩
  | hcsPrefix | probePrefix | legacyPrefix => exact ⟨.cmd55 p.crcPlaceholder, hp, rfl, h⟩
  | hcsPoll => exact ⟨.acmd41Hcs p.crcPlaceholder, hp, rfl, h⟩
  | readOcr => exact ⟨.cmd58 p.crcPlaceholder, hp, rfl, h⟩
  | probe => exact ⟨.acmd41Zero p.crcPlaceholder, hp, rfl, h⟩
  | legacyPoll tmr ty =>
    obtain hty | hty := eq_or_ne ty ctSd1
    · exact ⟨.acmd41Zero p.crcPlaceholder, hp, rfl, h.trans (if_pos hty)⟩
    · exact ⟨.cmd1 p.crcPlaceholder, hp, rfl, h.trans (if_neg hty)⟩
  | setBlocklen => exact ⟨.cmd16 p.crcPlaceholder, hp, rfl, h⟩
  | readBlock =>
    obtain ⟨addr, h⟩ := h
    exact ⟨.cmd17 addr p.crcPlaceholder, hp, rfl, h⟩

/-- Settles O4: the frame at a call is a command's encoding, which decodes to it. -/
theorem calledFramesAreCommands : Obligations.CalledFramesAreCommands := by
  intro p frame ret hp h
  obtain ⟨i, hwf, hport, rfl⟩ := calledFrame_eq_encode hp h
  exact ⟨i, hwf, hport, rfl, hport ▸ decodeWord_encode i⟩

/-! ## The frame at each point of the framer -/

/-- What `FrameInv` says of a point of CTL: the frame in flight is its caller's, the bytes left a tail of it. -/
def Framed (p : Params) : Kont → Prop
  | .send frame ret | .dummy1 frame ret | .select frame ret | .dummy2 frame ret =>
    calledFrame p frame ret
  | .transmit rest ret => ∃ sent frame, calledFrame p frame ret ∧ frame = sent ++ rest
  | _ => True

theorem frameInv_iff {s : State} : FrameInv s ↔ OperationInv s ∧ Framed s.cfg s.k := by
  unfold FrameInv
  cases s.k <;> rfl

section
variable (p : Params)

/-- A point outside a call of SendCmd has no frame. -/
theorem Framed.of_no_call {k : Kont} (h : kontRet k = none) : Framed p k := by
  cases k with
  | send | dummy1 | select | dummy2 | transmit => cases h
  | _ => trivial

/-! ### INIT's decisions -/

theorem Framed.initEnd (ty : BitVec 4) : Framed p (initEnd ty) := .of_no_call p rfl

theorem Framed.hcsLoop (tmr : Nat) : Framed p (hcsLoop p tmr) := by
  unfold Machine.hcsLoop
  split_ifs
  · exact .initEnd p _
  · exact rfl

theorem Framed.legacyLoop (ty : BitVec 4) (tmr : Nat) : Framed p (legacyLoop p ty tmr) := by
  unfold Machine.legacyLoop
  split_ifs with _ hty
  · exact .initEnd p _
  · exact rfl
  · exact (if_neg hty).symm

theorem Framed.afterGoIdle (r : Byte) : Framed p (afterGoIdle r) := by
  unfold Machine.afterGoIdle
  split_ifs
  · exact rfl
  · exact .initEnd p _

theorem Framed.afterIfCond (r : Byte) : Framed p (afterIfCond p r) := by
  unfold Machine.afterIfCond
  split_ifs
  · trivial
  · exact rfl

theorem Framed.afterHcsPrefix (tmr : Nat) (r : Byte) : Framed p (afterHcsPrefix p tmr r) := by
  unfold Machine.afterHcsPrefix
  split_ifs
  · exact rfl
  · exact .hcsLoop p _

theorem Framed.afterHcsPoll (tmr : Nat) (r : Byte) : Framed p (afterHcsPoll p tmr r) := by
  unfold Machine.afterHcsPoll
  split_ifs
  · exact rfl
  · exact .hcsLoop p _

theorem Framed.afterReadOcr (r : Byte) : Framed p (afterReadOcr r) := by
  unfold Machine.afterReadOcr
  split_ifs
  · trivial
  · exact .initEnd p _

theorem Framed.afterProbePrefix (r : Byte) : Framed p (afterProbePrefix p r) := by
  unfold Machine.afterProbePrefix
  split_ifs
  · exact rfl
  · exact .legacyLoop p _ _

theorem Framed.afterLegacyPrefix (tmr : Nat) (r : Byte) :
    Framed p (afterLegacyPrefix p tmr r) := by
  unfold Machine.afterLegacyPrefix
  split_ifs
  · exact (if_pos rfl).symm
  · exact .legacyLoop p _ _

theorem Framed.afterLegacyPoll (tmr : Nat) (ty : BitVec 4) (r : Byte) :
    Framed p (afterLegacyPoll p tmr ty r) := by
  unfold Machine.afterLegacyPoll
  split_ifs
  · exact rfl
  · exact .legacyLoop p _ _

theorem Framed.afterSetBlocklen (ty : BitVec 4) (r : Byte) : Framed p (afterSetBlocklen ty r) := by
  unfold Machine.afterSetBlocklen
  split_ifs <;> exact .initEnd p _

theorem Framed.nextTail (what : TailOf) (got : List Byte) : Framed p (nextTail p what got) := by
  unfold Machine.nextTail
  split_ifs
  · cases what with
    | ocr => exact .initEnd p _
    | ifCond =>
      unfold afterTail
      split_ifs
      · exact .hcsLoop p _
      · exact .initEnd p _
  · trivial

theorem Framed.afterClocks (left : Nat) : Framed p (afterClocks left) := by
  unfold Machine.afterClocks
  split_ifs
  · exact rfl
  · trivial

/-! ### READP's decisions -/

theorem Framed.afterReadBlock (r : Byte) : Framed p (afterReadBlock p r) := by
  unfold Machine.afterReadBlock
  split_ifs <;> trivial

theorem Framed.afterToken (left : Nat) (rc : Byte) : Framed p (afterToken left rc) := by
  unfold Machine.afterToken
  split_ifs <;> trivial

theorem Framed.afterPayload (i : Nat) : Framed p (afterPayload i) := by
  unfold Machine.afterPayload
  split_ifs <;> trivial

/-! ### SendCmd's own steps -/

/-- With the R1 in, CTL is at the caller's next call of SendCmd or outside one. -/
theorem Framed.nextPoll (left : Nat) (ret : Ret) (r : Byte) : Framed p (nextPoll p left ret r) := by
  unfold Machine.nextPoll
  split_ifs
  · cases ret with
    | solo => trivial
    | goIdle => exact .afterGoIdle p r
    | ifCond => exact .afterIfCond p r
    | hcsPrefix tmr => exact .afterHcsPrefix p tmr r
    | hcsPoll tmr => exact .afterHcsPoll p tmr r
    | readOcr => exact .afterReadOcr p r
    | probePrefix => exact .afterProbePrefix p r
    | probe => exact .legacyLoop p _ _
    | legacyPrefix tmr => exact .afterLegacyPrefix p tmr r
    | legacyPoll tmr ty => exact .afterLegacyPoll p tmr ty r
    | setBlocklen ty => exact .afterSetBlocklen p ty r
    | readBlock => exact .afterReadBlock p r
  · trivial

/-- A tail's own tail is a tail of the same frame. -/
theorem Framed.afterTransmit {b : Byte} {bs : List Byte} {ret : Ret}
    (h : Framed p (.transmit (b :: bs) ret)) : Framed p (afterTransmit p bs ret) := by
  obtain ⟨sent, frame, hframe, htail⟩ := h
  cases bs with
  | nil => trivial
  | cons b' bs => exact ⟨sent ++ [b], frame, hframe, by simpa using htail⟩

end

/-! ## CTL's steps -/

section
variable {s : State}

theorem stepStart_framed {op : HostOp} (hk : s.k = .start op) (hplay : op ≠ .play) :
    Framed s.cfg (stepStart op s).k := by
  have hstay : Framed s.cfg s.k := .of_no_call _ (hk ▸ rfl)
  cases op with
  | init => exact .afterClocks _ _
  | readp =>
    unfold stepStart stepReadpStart
    split_ifs
    · exact hstay
    · exact hstay
    · exact ⟨_, rfl⟩
  | writepInit | writepAppend | writepFinal => exact hstay
  | loadfmt =>
    unfold stepStart stepLoadfmt
    split_ifs
    · exact hstay
    · exact hstay
    · trivial
  | play => exact absurd rfl hplay

theorem stepTransmit_framed {rest : List Byte} {ret : Ret}
    (h : Framed s.cfg (.transmit rest ret)) : Framed s.cfg (stepTransmit rest ret s).k := by
  cases rest with
  | nil => trivial
  | cons b bs => exact h.afterTransmit

theorem stepPayload_framed (i : Nat) : Framed s.cfg (stepPayload i s).k := by
  unfold stepPayload
  split_ifs <;> exact .afterPayload _ i

/-- PLAY stays in PLAY or ends, and calls no SendCmd. -/
theorem ctlStep_framed_of_play (hplay : kontOp s.k = some .play) :
    Framed s.cfg (ctlStep s).k := by
  apply Framed.of_no_call
  obtain hc | he := ctlStep_continues_or_ends s
  · cases hret : kontRet (ctlStep s).k with
    | none => rfl
    | some ret => exact absurd (hc.goes.op.trans hplay) (kontOp_ne_play_of_call hret)
  · rw [he.k]
    rfl

/-- CTL goes from one point whose frame is its caller's to another. -/
theorem ctlStep_framed (h : Framed s.cfg s.k) : Framed s.cfg (ctlStep s).k := by
  obtain hplay | hplay := eq_or_ne (kontOp s.k) (some .play)
  · exact ctlStep_framed_of_play hplay
  unfold ctlStep
  cases hk : s.k with rw [hk] at h hplay
  | idle | send =>
    change Framed s.cfg s.k
    rwa [hk]
  | start op => exact stepStart_framed hk fun hop => hplay (congrArg some hop)
  | clocks left => exact .afterClocks _ _
  | dummy1 | select => exact h
  | dummy2 frame ret => exact ⟨[], frame, h, rfl⟩
  | transmit rest ret => exact stepTransmit_framed h
  | poll left ret => exact .nextPoll _ _ ret _
  | tail what got => exact .nextTail _ what _
  | token left => exact .afterToken _ _ _
  | payload i => exact stepPayload_framed i
  | releaseDesel => trivial
  | releaseDummy e => cases e <;> trivial
  | _ => exact absurd rfl hplay

end

/-- A frame that begins is the one CTL called SendCmd on: its bytes decoded, so they are the encoding (O2). -/
theorem exec_framed {s t : State} {frame : List Byte} {ret : Ret} {i : Instr}
    (h : Framed s.cfg s.k) (hk : s.k = .send frame ret) (hd : decodeWord .sdcmd48 frame = .ok i)
    (hx : exec i s = .next t) : Framed s.cfg t.k := by
  obtain ⟨hbytes, hport⟩ := decodedBytesAreTheEncoding _ _ _ hd
  rw [exec_of_sdcmd48 s hport, hbytes, beginFrame_of_send frame hk] at hx
  cases hx
  rw [hk] at h
  exact h

theorem hostRead_k (n : Byte) (s : State) : (hostRead n s).k = s.k := by
  unfold hostRead
  split <;> rfl

/-- Settles O13: CTL alone moves the framer; HOST's issue has no frame yet, and the other steps leave CTL's point. -/
theorem everyStepKeepsFrames : Obligations.EveryStepKeepsFrames := by
  intro s t hinv h
  obtain ⟨hop, hframe⟩ := frameInv_iff.1 hinv
  refine frameInv_iff.2 ⟨everyStepKeepsOneOperation s t hop h, ?_⟩
  rw [(parametersFixedAndHistoryGrows s t h).1]
  rw [← takeTurn_cfg, ← takeTurn_k] at hframe
  rw [← takeTurn_cfg]
  obtain ⟨-, -, hread | hreserved | hissue | hsend | hctl | hack | hfault | hemit⟩ :=
    step_next_cases h
  · obtain ⟨-, n, _, -, rfl⟩ := hread
    rwa [hostRead_k]
  · obtain ⟨-, _, _, _, -, -, rfl⟩ := hreserved
    exact hframe
  · obtain ⟨-, _, _, _, -, hd, hx⟩ := hissue
    obtain ⟨op, -, hk⟩ := (issues_of_exec (decodeWord_port hd) hx).started
    exact .of_no_call _ (hk ▸ rfl)
  · obtain ⟨-, frame, ret, i, hk, hd, hx⟩ := hsend
    exact exec_framed hframe ((takeTurn_k s).trans hk) hd hx
  · obtain ⟨-, -, rfl⟩ := hctl
    exact ctlStep_framed hframe
  · obtain ⟨-, -, rfl⟩ := hack
    exact hframe
  · obtain ⟨-, _, -, rfl⟩ := hfault
    exact hframe
  · obtain ⟨-, _, -, rfl⟩ := hemit
    exact hframe

end Sys2Proof.Machine
end

section
/-! SUPPORT. The card-select statements (40_framer_and_init.md R120 to R125): how a frame begins, and the card deselected
wherever the framer is not at work. -/

namespace Sys2Proof.Machine

/-- Settles O11: at a call of SendCmd every frame begins, and its bytes are its encoding. -/
theorem framesBeginTheirSendCmd : Obligations.FramesBeginTheirSendCmd := by
  intro s called ret addr crc hk
  have hbegin (i : Instr) (hp : i.port = .sdcmd48) :
      exec i s = .next (goto (.dummy1 (encode i) ret) (csDeassert s)) := by
    rw [exec_of_sdcmd48 s hp, beginFrame_of_send _ hk]
  exact ⟨hbegin .cmd0 rfl, hbegin (.cmd1 crc) rfl, hbegin .cmd8 rfl, hbegin (.cmd16 crc) rfl,
    hbegin (.cmd17 addr crc) rfl, hbegin (.cmd55 crc) rfl, hbegin (.acmd41Hcs crc) rfl,
    hbegin (.acmd41Zero crc) rfl, hbegin (.cmd58 crc) rfl⟩

/-! ## What a step does to the card's select line -/

/-- If CTL comes to a point where the card is deselected, the step deselects it, or the line stays and CTL was at such a
point already. -/
def KeepsReleased (s t : State) : Prop :=
  cardReleased t.k = true → t.sdCs = .deasserted ∨ t.sdCs = s.sdCs ∧ cardReleased s.k = true

section
variable {s t : State}

theorem KeepsReleased.at_work (h : cardReleased t.k = false) : KeepsReleased s t :=
  fun ht => absurd ht (by simp [h])

theorem KeepsReleased.deselects (h : t.sdCs = .deasserted := by rfl) : KeepsReleased s t :=
  fun _ => .inl h

theorem KeepsReleased.of_released {k : Kont} (hk : s.k = k) (hrel : cardReleased k = true)
    (h : t.sdCs = s.sdCs := by rfl) : KeepsReleased s t :=
  fun _ => .inr ⟨h, hk ▸ hrel⟩

theorem KeepsReleased.of_same (hk : t.k = s.k := by rfl) (h : t.sdCs = s.sdCs := by rfl) :
    KeepsReleased s t :=
  fun ht => .inr ⟨h, hk ▸ ht⟩

/-- Taking the schedule's turn leaves CTL's point and the line. -/
theorem KeepsReleased.of_takeTurn (h : KeepsReleased (takeTurn s) t) : KeepsReleased s t := by
  unfold KeepsReleased at h ⊢
  rwa [takeTurn_sdCs, takeTurn_k] at h

end

/-! ### With the R1 or a tail in, the framer stays at work up to the release -/

theorem cardReleased_hcsLoop (p : Params) (tmr : Nat) : cardReleased (hcsLoop p tmr) = false := by
  unfold hcsLoop
  split_ifs <;> rfl

theorem cardReleased_legacyLoop (p : Params) (ty : BitVec 4) (tmr : Nat) :
    cardReleased (legacyLoop p ty tmr) = false := by
  unfold legacyLoop
  split_ifs <;> rfl

theorem cardReleased_afterTail (p : Params) (what : TailOf) (ocr : List Byte) :
    cardReleased (afterTail p what ocr) = false := by
  cases what with
  | ifCond =>
    unfold afterTail
    split_ifs
    · exact cardReleased_hcsLoop p _
    · rfl
  | ocr => rfl

theorem cardReleased_nextTail (p : Params) (what : TailOf) (got : List Byte) :
    cardReleased (nextTail p what got) = false := by
  unfold nextTail
  split_ifs
  · exact cardReleased_afterTail p what got
  · rfl

theorem cardReleased_afterToken (left : Nat) (rc : Byte) :
    cardReleased (afterToken left rc) = false := by
  unfold afterToken
  split_ifs <;> rfl

theorem cardReleased_afterPayload (i : Nat) : cardReleased (afterPayload i) = false := by
  unfold afterPayload
  split_ifs <;> rfl

theorem cardReleased_afterTransmit (p : Params) (rest : List Byte) (ret : Ret) :
    cardReleased (afterTransmit p rest ret) = false := by
  cases rest <;> rfl

/-- Every caller of SendCmd sends on, receives on or releases the card. -/
theorem cardReleased_afterR1 (p : Params) {ret : Ret} (r : Byte) (h : ret ≠ .solo) :
    cardReleased (afterR1 p ret r) = false := by
  cases ret with
  | solo => exact absurd rfl h
  | goIdle => unfold afterR1 afterGoIdle; split_ifs <;> rfl
  | ifCond => unfold afterR1 afterIfCond; split_ifs <;> rfl
  | hcsPrefix tmr =>
    unfold afterR1 afterHcsPrefix
    split_ifs
    · rfl
    · exact cardReleased_hcsLoop p _
  | hcsPoll tmr =>
    unfold afterR1 afterHcsPoll
    split_ifs
    · rfl
    · exact cardReleased_hcsLoop p _
  | readOcr => unfold afterR1 afterReadOcr; split_ifs <;> rfl
  | probePrefix =>
    unfold afterR1 afterProbePrefix
    split_ifs
    · rfl
    · exact cardReleased_legacyLoop p _ _
  | probe => exact cardReleased_legacyLoop p _ _
  | legacyPrefix tmr =>
    unfold afterR1 afterLegacyPrefix
    split_ifs
    · rfl
    · exact cardReleased_legacyLoop p _ _
  | legacyPoll tmr ty =>
    unfold afterR1 afterLegacyPoll
    split_ifs
    · rfl
    · exact cardReleased_legacyLoop p _ _
  | setBlocklen ty => unfold afterR1 afterSetBlocklen; split_ifs <;> rfl
  | readBlock => unfold afterR1 afterReadBlock; split_ifs <;> rfl

theorem cardReleased_nextPoll (p : Params) (left : Nat) {ret : Ret} (r : Byte) (h : ret ≠ .solo) :
    cardReleased (nextPoll p left ret r) = false := by
  unfold nextPoll
  split_ifs
  · exact cardReleased_afterR1 p r h
  · rfl

/-! ### CTL's step -/

section
variable {s : State}

/-- Of the operations' first lines only INIT's touches the card, and deselects it (R131). -/
theorem stepStart_keepsReleased {op : HostOp} (hk : s.k = .start op) :
    KeepsReleased s (stepStart op s) := by
  cases op with
  | init => exact .deselects
  | readp => unfold stepStart stepReadpStart; split_ifs <;> exact .of_released hk rfl
  | writepInit | writepAppend | writepFinal => exact .of_released hk rfl
  | loadfmt => unfold stepStart stepLoadfmt; split_ifs <;> exact .of_released hk rfl
  | play => unfold stepStart stepPlayStart; split_ifs <;> exact .of_released hk rfl

theorem stepTransmit_keepsReleased (rest : List Byte) (ret : Ret) :
    KeepsReleased s (stepTransmit rest ret s) := by
  cases rest with
  | nil => exact .at_work rfl
  | cons b bs => exact .at_work (cardReleased_afterTransmit _ _ _)

theorem stepPayload_keepsReleased (i : Nat) : KeepsReleased s (stepPayload i s) := by
  unfold stepPayload
  split_ifs <;> exact .at_work (cardReleased_afterPayload i)

/-- PLAY's reads and waits leave the line (42_fifo_refill.md R222). -/
theorem stepPrimeA_sdCs (s : State) : (stepPrimeA s).sdCs = s.sdCs := by
  unfold stepPrimeA
  split
  · rfl
  · split_ifs <;> rfl

theorem stepPrimeB_sdCs (s : State) : (stepPrimeB s).sdCs = s.sdCs := by
  unfold stepPrimeB
  split <;> rfl

theorem stepLoopPlayed_sdCs (s : State) : (stepLoopPlayed s).sdCs = s.sdCs := by
  unfold stepLoopPlayed
  split_ifs <;> rfl

theorem stepLoopStatus_sdCs (s : State) : (stepLoopStatus s).sdCs = s.sdCs := by
  unfold stepLoopStatus
  split_ifs <;> rfl

theorem stepRefill_sdCs (b : BufId) (s : State) : (stepRefill b s).sdCs = s.sdCs := by
  unfold stepRefill
  split <;> rfl

/-- CTL's step at each of its points, with no frame sent by nobody. -/
theorem ctlStep_keepsReleased (hsolo : kontRet s.k ≠ some .solo) : KeepsReleased s (ctlStep s) := by
  unfold ctlStep
  cases hk : s.k with
  | idle | send => exact .of_same
  | start op => exact stepStart_keepsReleased hk
  | clocks | dummy1 | primeSet | primeArm | refillReady | playFail => exact .of_released hk rfl
  | select | dummy2 => exact .at_work rfl
  | transmit rest ret => exact stepTransmit_keepsReleased rest ret
  | poll left ret =>
    have hret : ret ≠ .solo := fun h => hsolo (hk ▸ congrArg some h)
    exact .at_work (cardReleased_nextPoll _ _ _ hret)
  | tail what got => exact .at_work (cardReleased_nextTail _ _ _)
  | token left => exact .at_work (cardReleased_afterToken _ _)
  | payload i => exact stepPayload_keepsReleased i
  | releaseDesel e => exact .deselects
  | releaseDummy e => cases e <;> exact .of_released hk rfl
  | primeA => exact .of_released hk rfl (stepPrimeA_sdCs s)
  | primeB => exact .of_released hk rfl (stepPrimeB_sdCs s)
  | loopPlayed => exact .of_released hk rfl (stepLoopPlayed_sdCs s)
  | loopStatus => exact .of_released hk rfl (stepLoopStatus_sdCs s)
  | refill b => exact .of_released hk rfl (stepRefill_sdCs b s)

end

/-! ### A step of any agent -/

theorem hostRead_sdCs (n : Byte) (s : State) : (hostRead n s).sdCs = s.sdCs := by
  unfold hostRead
  split <;> rfl

/-- With `BUSY = 0` and no frame sent by nobody, CTL is idle and the card is deselected. -/
theorem cardReleased_of_not_busy {s : State} (h : OperationInv s) (hb : s.busy = false) :
    cardReleased s.k = true := by
  obtain ⟨hbusy, hop, hsolo⟩ := h
  have hnone : kontOp s.k = none := by
    rw [← hop, ← Option.not_isSome_iff_eq_none, ← hbusy, hb]
    exact Bool.false_ne_true
  cases hk : s.k with rw [hk] at hnone hsolo
  | send _ ret | transmit _ ret | poll _ ret | dummy2 _ ret =>
    cases ret with
    | solo => exact absurd rfl hsolo
    | _ => cases hnone
  | tail | token | payload | releaseDesel => cases hnone
  | _ => rfl

/-- What a step of any agent does to the card's select line. -/
theorem step_keepsReleased {s t : State} (hop : OperationInv s) (h : step s = .next t) :
    KeepsReleased s t := by
  suffices hu : KeepsReleased (takeTurn s) t from hu.of_takeTurn
  obtain ⟨-, -, hread | hreserved | hissue | hframe | hctl | hack | hfault | hemit⟩ :=
    step_next_cases h
  · obtain ⟨-, n, _, -, rfl⟩ := hread
    exact .of_same (hostRead_k n _) (hostRead_sdCs n _)
  · obtain ⟨-, _, _, _, -, -, rfl⟩ := hreserved
    exact .of_same
  · obtain ⟨-, _, _, i, -, hd, hx⟩ := hissue
    obtain ⟨op, l, hi⟩ := exec_of_hostop (popLine (takeTurn s)) (decodeWord_port hd)
    obtain ⟨-, -, hb, rfl⟩ := issue_next (hi ▸ hx)
    have hidle : s.busy = false := (takeTurn_busy s).symm.trans hb
    exact .of_released rfl ((takeTurn_k s).symm ▸ cardReleased_of_not_busy hop hidle)
  · obtain ⟨-, _, _, i, -, hd, hx⟩ := hframe
    rw [exec_of_sdcmd48 _ (decodeWord_port hd)] at hx
    obtain ⟨_, _, -, rfl⟩ := beginFrame_next hx
    exact .deselects
  · obtain ⟨-, -, rfl⟩ := hctl
    exact ctlStep_keepsReleased ((takeTurn_k s).symm ▸ hop.2.2)
  · obtain ⟨-, -, rfl⟩ := hack
    exact .of_same
  · obtain ⟨-, _, -, rfl⟩ := hfault
    exact .of_same
  · obtain ⟨-, _, -, rfl⟩ := hemit
    exact .of_same

/-- Settles O55: the agreement's part is O54, and a step keeps the card deselected where it has to be. -/
theorem everyStepKeepsTheBusReleased : Obligations.EveryStepKeepsTheBusReleased := by
  intro s t ⟨hop, hrel⟩ h
  refine ⟨everyStepKeepsOneOperation s t hop h, fun ht => ?_⟩
  obtain hdes | ⟨hsame, hs⟩ := step_keepsReleased hop h ht
  · exact hdes
  · exact hsame.trans (hrel hs)

end Sys2Proof.Machine
end

section
/-! SUPPORT. Runs in which CTL alone moves, the exchanges of a run and the card's answers to them, and SendCmd from its
call to its return (40_framer_and_init.md R121, R122). -/

namespace Sys2Proof.Machine

/-! ## Runs -/

theorem runs_succ {n : Nat} {s u : State} :
    Runs (n + 1) s u ↔ ∃ t, step s = .next t ∧ Runs n t u := by
  have hstep : core.step s = step s := rfl
  simp only [Runs, Host.Core.run, hstep]
  cases step s with
  | next t => simp
  | fault | refused => simp

theorem Runs.trans {m n : Nat} {s t u : State} (h : Runs m s t) (h' : Runs n t u) :
    Runs (m + n) s u := by
  induction m generalizing s with
  | zero =>
    cases h
    rwa [Nat.zero_add]
  | succ m ih =>
    obtain ⟨v, hv, hrun⟩ := runs_succ.1 h
    rw [Nat.succ_add]
    exact runs_succ.2 ⟨v, hv, ih hrun⟩

theorem afterTurns_afterTurns (m n : Nat) (s : State) :
    afterTurns n (afterTurns m s) = afterTurns (m + n) s := by
  simp [afterTurns, List.drop_drop]

/-! ## CTL's move when no other agent has a step -/

/-- What CTL's move does: at a call of SendCmd it begins the frame, anywhere else it is CTL's own step. -/
def ctlMove (s : State) : State :=
  match s.k with
  | .send frame ret => goto (.dummy1 frame ret) (csDeassert s)
  | _ => ctlStep s

/-- The frame CTL calls SendCmd on, where it stands at a call, is a command's. -/
def CallsCommand (k : Kont) : Prop :=
  ∀ frame ret, k = .send frame ret → ∃ i : Instr, i.port = .sdcmd48 ∧ frame = encode i

/-- CTL alone is at work and has a step: it is not idle, not stuck, and no frame it calls is unknown. -/
structure CtlMoves (s : State) : Prop where
  alone : CtlAlone s
  hasStep : ctlHasStep s = true
  command : CallsCommand s.k

theorem ctlMove_of_send {s : State} {frame : List Byte} {ret : Ret} (hk : s.k = .send frame ret) :
    ctlMove s = goto (.dummy1 frame ret) (csDeassert s) := by
  simp only [ctlMove, hk]

theorem ctlMove_of_not_send {s : State} (hk : ∀ frame ret, s.k ≠ .send frame ret) :
    ctlMove s = ctlStep s := by
  unfold ctlMove
  split
  next frame ret hs => exact absurd hs (hk frame ret)
  next => rfl

/-- Where CTL alone has a step, the schedule loses its entry and nothing else. -/
theorem takeTurn_of_only_ctl {s : State} (h : enabledAgents s = [.ctl]) :
    takeTurn s = afterTurns 1 s := by
  obtain ⟨_, _, _, _, _, _, _, _, _, _, _, _, _, _, _, _, ⟨_, _, _, sched, _, _⟩⟩ := s
  simp only [takeTurn, h]
  cases sched <;> rfl

theorem CtlMoves.enabledAgents {s : State} (h : CtlMoves s) : enabledAgents s = [.ctl] := by
  obtain ⟨⟨-, hbusy, hunarmed⟩, hc, -⟩ := h
  simp [Machine.enabledAgents, Machine.hasStep, hostHasStep_of_busy hbusy, hc, emtHasStep,
    hunarmed]

theorem CtlMoves.mover {s : State} (h : CtlMoves s) : mover s = some .ctl := by
  obtain ⟨⟨-, hbusy, hunarmed⟩, hc, -⟩ := h
  exact mover_eq_ctl (hostHasStep_of_busy hbusy) hc (by simp [emtHasStep, hunarmed])

/-! ### CTL's move does not look at the schedule -/

theorem fileAnswer_afterTurns (k : BufId) (len m : Nat) (s : State) :
    fileAnswer k len (afterTurns m s) = fileAnswer k len s := rfl

theorem stepStart_afterTurns (op : HostOp) (m : Nat) (s : State) :
    stepStart op (afterTurns m s) = afterTurns m (stepStart op s) := by
  cases op with
  | init | writepInit | writepAppend | writepFinal => rfl
  | readp => simp only [stepStart, stepReadpStart, apply_ite (afterTurns m)]; rfl
  | loadfmt => simp only [stepStart, stepLoadfmt, apply_ite (afterTurns m)]; rfl
  | play => simp only [stepStart, stepPlayStart, apply_ite (afterTurns m)]; rfl

theorem stepPrimeA_afterTurns (m : Nat) (s : State) :
    stepPrimeA (afterTurns m s) = afterTurns m (stepPrimeA s) := by
  have hcfg : (afterTurns m s).cfg = s.cfg := rfl
  unfold stepPrimeA
  rw [hcfg, fileAnswer_afterTurns]
  cases fileAnswer .bufA s.cfg.bufSize s with
  | error e => rfl
  | count bytes => simp only [apply_ite (afterTurns m)]; rfl

theorem stepPrimeB_afterTurns (m : Nat) (s : State) :
    stepPrimeB (afterTurns m s) = afterTurns m (stepPrimeB s) := by
  have hcfg : (afterTurns m s).cfg = s.cfg := rfl
  unfold stepPrimeB
  rw [hcfg, fileAnswer_afterTurns]
  cases fileAnswer .bufB s.cfg.bufSize s <;> rfl

theorem stepRefill_afterTurns (b : BufId) (m : Nat) (s : State) :
    stepRefill b (afterTurns m s) = afterTurns m (stepRefill b s) := by
  have hcfg : (afterTurns m s).cfg = s.cfg := rfl
  unfold stepRefill
  rw [hcfg, fileAnswer_afterTurns]
  cases fileAnswer b s.cfg.bufSize s <;> rfl

theorem ctlStep_afterTurns (m : Nat) (s : State) :
    ctlStep (afterTurns m s) = afterTurns m (ctlStep s) := by
  have hk' : (afterTurns m s).k = s.k := rfl
  unfold ctlStep
  rw [hk']
  cases s.k with
  | start op => exact stepStart_afterTurns op m s
  | transmit rest ret => cases rest <;> rfl
  | payload i => simp only [stepPayload, apply_ite (afterTurns m)]; rfl
  | releaseDummy e => cases e <;> rfl
  | primeA => exact stepPrimeA_afterTurns m s
  | primeB => exact stepPrimeB_afterTurns m s
  | loopPlayed => simp only [stepLoopPlayed, apply_ite (afterTurns m)]; rfl
  | loopStatus => simp only [stepLoopStatus, apply_ite (afterTurns m)]; rfl
  | refill b => exact stepRefill_afterTurns b m s
  | _ => rfl

theorem ctlMove_afterTurns (m : Nat) (s : State) :
    ctlMove (afterTurns m s) = afterTurns m (ctlMove s) := by
  have hk' : (afterTurns m s).k = s.k := rfl
  unfold ctlMove
  rw [hk']
  cases s.k with
  | send => rfl
  | _ => exact ctlStep_afterTurns m s

/-- Where CTL alone has a step, that step is CTL's move. -/
theorem CtlMoves.step {s : State} (h : CtlMoves s) : step s = .next (afterTurns 1 (ctlMove s)) := by
  have hturn := takeTurn_of_only_ctl h.enabledAgents
  rw [← ctlMove_afterTurns, ← hturn]
  by_cases hsend : ∃ frame ret, s.k = .send frame ret
  · obtain ⟨frame, ret, hk⟩ := hsend
    obtain ⟨i, hp, rfl⟩ := h.command frame ret hk
    have hd : decodeWord .sdcmd48 (encode i) = .ok i := hp ▸ decodeWord_encode i
    have hk' : (takeTurn s).k = .send (encode i) ret := (takeTurn_k s).trans hk
    rw [(stepRunsTheDecodedInstruction s i h.alone.1).2.1 _ ret h.mover hk hd,
      exec_of_sdcmd48 _ hp, beginFrame_of_send _ hk', ctlMove_of_send hk']
  · have hk : ∀ frame ret, s.k ≠ .send frame ret := fun frame ret hk => hsend ⟨frame, ret, hk⟩
    have hk' : ∀ frame ret, (takeTurn s).k ≠ .send frame ret := by rwa [takeTurn_k]
    rw [(stepsThatFetchNothing s h.alone.1).2.1 h.mover hk, ctlMove_of_not_send hk']

/-! ## What CTL alone comes to -/

/-- `n` steps lead from `s` to `u`, however much of the schedule is used up, and use up `n` more of its entries. -/
def Leads (n : Nat) (s u : State) : Prop :=
  ∀ m, Runs n (afterTurns m s) (afterTurns (m + n) u)

theorem Leads.refl (s : State) : Leads 0 s s := fun _ => rfl

theorem Leads.trans {m n : Nat} {s t u : State} (h : Leads m s t) (h' : Leads n t u) :
    Leads (m + n) s u := by
  intro j
  have hrun := (h j).trans (h' (j + m))
  rwa [Nat.add_assoc] at hrun

theorem Leads.runs {n : Nat} {s u : State} (h : Leads n s u) : Runs n s (afterTurns n u) := by
  have hrun := h 0
  rwa [Nat.zero_add] at hrun

/-- One step of CTL. -/
theorem CtlMoves.leads {s : State} (h : CtlMoves s) : Leads 1 s (ctlMove s) := by
  intro m
  have hm : CtlMoves (afterTurns m s) := ⟨h.alone, h.hasStep, h.command⟩
  refine runs_succ.2 ⟨_, hm.step, ?_⟩
  rw [ctlMove_afterTurns, afterTurns_afterTurns]
  exact rfl

/-- One step of CTL at a point that is neither idle nor a payload receive, and then more. -/
theorem Leads.cons {n : Nat} {s t u : State} (h : Leads n t u) (hs : CtlAlone s)
    (hmoves : ctlHasStep s = true) (hcommand : CallsCommand s.k) (ht : ctlMove s = t) :
    Leads (n + 1) s u := by
  have hone : Leads 1 s t := ht ▸ (CtlMoves.mk hs hmoves hcommand).leads
  rw [Nat.add_comm]
  exact hone.trans h

theorem CallsCommand.of_not_send {k : Kont} (h : ∀ frame ret, k ≠ .send frame ret) :
    CallsCommand k :=
  fun frame ret hk => absurd hk (h frame ret)

theorem CallsCommand.of_encode {i : Instr} (hp : i.port = .sdcmd48) (ret : Ret) :
    CallsCommand (.send (encode i) ret) := by
  intro frame ret' hk
  cases hk
  exact ⟨i, hp, rfl⟩

/-! ## Exchanges in a row -/

/-- The state after exchanges that send the bytes in order. -/
def exchanges (outs : List Byte) (s : State) : State := outs.foldl (fun s o => xchg o s) s

/-- The card's answers to those exchanges, from its script and then from its oracle. -/
def answers : List Byte → State → List Byte
  | [], _ => []
  | o :: outs, s => cardByte o s :: answers outs (xchg o s)

theorem exchanges_append (outs more : List Byte) (s : State) :
    exchanges (outs ++ more) s = exchanges more (exchanges outs s) := List.foldl_append

@[simp] theorem answers_length (outs : List Byte) (s : State) :
    (answers outs s).length = outs.length := by
  induction outs generalizing s with
  | nil => rfl
  | cons o outs ih => simp [answers, ih]

/-- While the script lasts, the answers are its bytes. -/
theorem answers_of_script {outs ans rest : List Byte} {s : State} (hcard : s.env.card = ans ++ rest)
    (hlen : ans.length = outs.length) : answers outs s = ans := by
  induction outs generalizing s ans with
  | nil => exact (List.eq_nil_of_length_eq_zero hlen).symm
  | cons o outs ih =>
    cases ans with
    | nil => cases hlen
    | cons a ans =>
      have hcard' : (xchg o s).env.card = ans ++ rest := by simp [hcard]
      simp only [answers, ih hcard' (Nat.succ.inj hlen), cardByte, hcard, List.cons_append,
        List.headD_cons]

/-- An exchange does not look at CTL's point. -/
theorem exchanges_goto (outs : List Byte) (k : Kont) (s : State) :
    exchanges outs (goto k s) = goto k (exchanges outs s) := by
  induction outs generalizing s with
  | nil => rfl
  | cons o outs ih => exact ih (xchg o s)

/-- Exchanges record each byte sent and answered at the line's level, and use up the script. -/
theorem exchanges_eq (outs : List Byte) (s : State) :
    exchanges outs s =
      { s with
        hist := s.hist ++ List.zipWith (Event.busX s.sdCs) outs (answers outs s)
        env := { s.env with card := s.env.card.drop outs.length } } := by
  induction outs generalizing s with
  | nil => simp [exchanges, answers]
  | cons o outs ih =>
    change exchanges outs (xchg o s) = _
    rw [ih]
    simp [xchg, answers]

@[simp] theorem exchanges_cfg (outs : List Byte) (s : State) : (exchanges outs s).cfg = s.cfg := by
  rw [exchanges_eq]

@[simp] theorem exchanges_env_card (outs : List Byte) (s : State) :
    (exchanges outs s).env.card = s.env.card.drop outs.length := by
  rw [exchanges_eq]

theorem CtlAlone.exchanges {s : State} (h : CtlAlone s) (outs : List Byte) :
    CtlAlone (exchanges outs s) := by
  rw [exchanges_eq]
  exact h

/-! ## A stretch of the conversation with the card -/

/-- CTL has come to a point with the line at a level, the history longer by some events and the card's script used up
to a rest; nothing else has changed. -/
def talked (k : Kont) (cs : Cs) (events : List Event) (rest : List Byte) (s : State) : State :=
  { s with k := k, sdCs := cs, hist := s.hist ++ events, env := { s.env with card := rest } }

theorem talked_talked (k k' : Kont) (cs cs' : Cs) (events more : List Event) (rest left : List Byte)
    (s : State) :
    talked k' cs' more left (talked k cs events rest s) =
      talked k' cs' (events ++ more) left s := by
  simp [talked]

/-- A stretch that begins with a deselect. -/
theorem talked_csDeassert (k : Kont) (cs : Cs) (events : List Event) (rest : List Byte) (s : State) :
    talked k cs events rest (csDeassert s) = talked k cs (.csDeassert :: events) rest s := by
  simp [talked, csDeassert]

theorem goto_exchanges (k : Kont) (outs : List Byte) (s : State) :
    goto k (exchanges outs s) =
      talked k s.sdCs (List.zipWith (Event.busX s.sdCs) outs (answers outs s))
        (s.env.card.drop outs.length) s := by
  rw [exchanges_eq]
  rfl

/-- Exchanges answered from the script are a stretch of it. -/
theorem goto_exchanges_of_script {outs ans rest : List Byte} {s : State} (k : Kont)
    (hcard : s.env.card = ans ++ rest) (hlen : ans.length = outs.length) :
    goto k (exchanges outs s) =
      talked k s.sdCs (List.zipWith (Event.busX s.sdCs) outs ans) rest s := by
  rw [goto_exchanges, answers_of_script hcard hlen, hcard, ← hlen, List.drop_left]

/-- Exchanges that send one byte each time are listed by their answers. -/
theorem zipWith_replicate_busX (cs : Cs) (o : Byte) (ans : List Byte) :
    List.zipWith (Event.busX cs) (List.replicate ans.length o) ans = ans.map (Event.busX cs o) := by
  induction ans with
  | nil => rfl
  | cons a ans ih => exact congrArg _ ih

theorem goto_exchanges_replicate (k : Kont) (n : Nat) (o : Byte) (s : State) :
    goto k (exchanges (List.replicate n o) s) =
      talked k s.sdCs ((answers (List.replicate n o) s).map (Event.busX s.sdCs o))
        (s.env.card.drop n) s := by
  have hzip := zipWith_replicate_busX s.sdCs o (answers (List.replicate n o) s)
  rw [answers_length, List.length_replicate] at hzip
  rw [goto_exchanges, hzip, List.length_replicate]

theorem goto_exchanges_replicate_of_script {ans rest : List Byte} {s : State} (k : Kont) (o : Byte)
    (hcard : s.env.card = ans ++ rest) :
    goto k (exchanges (List.replicate ans.length o) s) =
      talked k s.sdCs (ans.map (Event.busX s.sdCs o)) rest s := by
  rw [goto_exchanges_of_script k hcard List.length_replicate.symm, zipWith_replicate_busX]

/-! ## SendCmd -/

section
variable {s : State}

theorem ctlHasStep_of_call {ret : Ret} (h : kontRet s.k = some ret) : ctlHasStep s = true := by
  unfold ctlHasStep
  cases hk : s.k with
  | idle | payload => rw [hk] at h; cases h
  | _ => rfl

/-- The frame's bytes go out one by one, and the poll begins in the last one's step. -/
theorem leads_of_transmit {rest : List Byte} {ret : Ret} (hs : CtlAlone s)
    (hk : s.k = .transmit rest ret) (hne : rest ≠ []) :
    Leads rest.length s (goto (.poll s.cfg.nR1 ret) (exchanges rest s)) := by
  induction rest generalizing s with
  | nil => exact absurd rfl hne
  | cons b bs ih =>
    have hmove : ctlMove s = goto (afterTransmit s.cfg bs ret) (xchg b s) := by
      simp only [ctlMove, ctlStep, hk]; rfl
    have htail : Leads bs.length (goto (afterTransmit s.cfg bs ret) (xchg b s))
        (goto (.poll s.cfg.nR1 ret) (exchanges (b :: bs) s)) := by
      cases bs with
      | nil => exact Leads.refl _
      | cons b' bs =>
        have h := ih (s := goto (.transmit (b' :: bs) ret) (xchg b s)) hs rfl nofun
        rwa [exchanges_goto] at h
    exact htail.cons hs (ctlHasStep_of_call (by rw [hk]; rfl)) (.of_not_send (by simp [hk])) hmove

/-- The poll receives what `refPoll` reads, and its last receive's step returns the R1 (R122, log 6). -/
theorem leads_of_poll {left : Nat} {ret : Ret} {r : Byte} {ans rest : List Byte} (hs : CtlAlone s)
    (hk : s.k = .poll left ret) (hcard : s.env.card = ans)
    (h : refPoll left ans = some (r, rest)) :
    ∃ polled, ans = polled ++ rest ∧ Leads polled.length s
      (goto (afterR1 s.cfg ret r) (exchanges (List.replicate polled.length filler) s)) := by
  induction ans generalizing s left with
  | nil => cases h
  | cons a ans ih =>
    have hrx : rxByte s = a := by simp [rxByte, cardByte, hcard]
    have hmove : ctlMove s = goto (nextPoll s.cfg (left - 1) ret a) (xchg filler s) := by
      rw [← hrx]
      simp only [ctlMove, ctlStep, hk]
      rfl
    have hstep : ∀ {n u}, Leads n (goto (nextPoll s.cfg (left - 1) ret a) (xchg filler s)) u →
        Leads (n + 1) s u := fun ht =>
      ht.cons hs (ctlHasStep_of_call (by rw [hk]; rfl)) (.of_not_send (by simp [hk])) hmove
    unfold refPoll at h
    split_ifs at h with hend
    · cases h
      have hend' : r1Valid r ∨ left - 1 = 0 := hend.imp_right Nat.sub_eq_zero_of_le
      refine ⟨[r], rfl, hstep (n := 0) ?_⟩
      rw [nextPoll, if_pos hend']
      exact Leads.refl _
    · have hend' : ¬(r1Valid a ∨ left - 1 = 0) :=
        fun hc => hend (hc.imp_right Nat.le_of_sub_eq_zero)
      rw [nextPoll, if_neg hend'] at hstep
      obtain ⟨polled, rfl, hl⟩ :=
        ih (s := goto (.poll (left - 1) ret) (xchg filler s)) (left := left - 1) hs rfl
          (by simp [hcard]) h
      refine ⟨a :: polled, rfl, hstep (n := polled.length) ?_⟩
      rwa [exchanges_goto] at hl

/-- The state after the bracket's deselect, dummy receive and select (R121). -/
def bracketed (s : State) : State := csAssert (xchg filler (csDeassert s))

theorem bracketed_eq {d : Byte} {more : List Byte} (hcard : s.env.card = d :: more) :
    bracketed s =
      talked s.k .asserted [.csDeassert, .busX .deasserted filler d, .csAssert] more s := by
  simp [bracketed, csAssert, xchg, csDeassert, cardByte, talked, hcard]

/-- The bracket and the frame bytes, from the frame's beginning to the poll (R121, R122). -/
theorem leads_to_poll {frame : List Byte} (ret : Ret) (hs : CtlAlone s) (hne : frame ≠ []) :
    Leads (frame.length + 3) (goto (.dummy1 frame ret) (csDeassert s))
      (goto (.poll s.cfg.nR1 ret) (exchanges (filler :: frame) (bracketed s))) := by
  have htransmit :=
    leads_of_transmit (s := goto (.transmit frame ret) (xchg filler (bracketed s))) hs rfl hne
  rw [exchanges_goto] at htransmit
  have hdummy2 : Leads _ (goto (.dummy2 frame ret) (bracketed s)) _ :=
    htransmit.cons hs rfl (.of_not_send nofun) rfl
  have hselect : Leads _ (goto (.select frame ret) (xchg filler (csDeassert s))) _ :=
    hdummy2.cons hs rfl (.of_not_send nofun) rfl
  exact hselect.cons hs rfl (.of_not_send nofun) rfl

/-- The transcript of a SendCmd answered by the first dummy's byte, seven more and the polled ones. -/
theorem sendEvents_of_answers (frame first polled : List Byte) (d : Byte)
    (hfirst : first.length = 7) :
    sendEvents frame (d :: first ++ polled) =
      [.csDeassert, .busX .deasserted filler d, .csAssert] ++
        List.zipWith (Event.busX .asserted)
          (filler :: frame ++ List.replicate polled.length filler) (first ++ polled) := by
  simp [sendEvents, hfirst, filler]

/-- SendCmd from the frame's beginning to the return of its R1, with the script cut where the rules cut it: the first
dummy's answer, seven more up to the last frame byte's, and what the poll reads. -/
theorem leads_of_frame {frame first mid rest : List Byte} {d r : Byte} (ret : Ret) (hs : CtlAlone s)
    (hframe : frame.length = 6) (hcard : s.env.card = d :: (first ++ mid)) (hfirst : first.length = 7)
    (h : refPoll s.cfg.nR1 mid = some (r, rest)) :
    ∃ polled, mid = polled ++ rest ∧
      Leads (polled.length + 9) (goto (.dummy1 frame ret) (csDeassert s))
        (talked (afterR1 s.cfg ret r) .asserted (sendEvents frame (d :: first ++ polled)) rest s) := by
  have hbegun : (bracketed s).env.card = first ++ mid := by rw [bracketed_eq hcard]; rfl
  have hmid : (exchanges (filler :: frame) (bracketed s)).env.card = mid := by
    simp [hbegun, hframe, ← hfirst]
  have halone : CtlAlone (exchanges (filler :: frame) (bracketed s)) :=
    CtlAlone.exchanges (s := bracketed s) hs _
  have hcfg : (exchanges (filler :: frame) (bracketed s)).cfg = s.cfg := exchanges_cfg _ _
  obtain ⟨polled, rfl, hpoll⟩ :=
    leads_of_poll (s := goto (.poll s.cfg.nR1 ret) (exchanges (filler :: frame) (bracketed s)))
      halone rfl hmid h
  refine ⟨polled, rfl, ?_⟩
  have hne : frame ≠ [] := List.ne_nil_of_length_pos (by omega)
  have hlen : (first ++ polled).length =
      (filler :: frame ++ List.replicate polled.length filler).length := by simp; omega
  have hscript : (bracketed s).env.card = first ++ polled ++ rest := by
    rw [hbegun, List.append_assoc]
  have hall := (leads_to_poll ret hs hne).trans hpoll
  rw [exchanges_goto, ← exchanges_append, goto_cfg, hcfg] at hall
  change Leads _ _ (goto _ (exchanges _ _)) at hall
  rw [goto_exchanges_of_script _ hscript hlen, bracketed_eq hcard, talked_talked] at hall
  rw [sendEvents_of_answers frame first polled d hfirst]
  have hsteps : frame.length + 3 + polled.length = polled.length + 9 := by omega
  rwa [hsteps] at hall

/-- The script of a SendCmd that ends: 8 answers and then the poll's. -/
theorem refSend_eq_some {p : Params} {ans rest : List Byte} {r : Byte}
    (h : refSend p ans = some (r, rest)) :
    ∃ d first mid, ans = d :: (first ++ mid) ∧ first.length = 7 ∧
      refPoll p.nR1 mid = some (r, rest) := by
  obtain ⟨mid, hskip, hpoll⟩ := Option.bind_eq_some_iff.1 h
  obtain ⟨hlen, hmid⟩ := refSkip_eq_some.1 hskip
  cases ans with
  | nil => cases hlen
  | cons d more =>
    refine ⟨d, more.take 7, mid, ?_, by simpa using hlen, hpoll⟩
    rw [← hmid, List.drop_succ_cons, List.take_append_drop]

@[simp] theorem used_append (ans rest : List Byte) : used (ans ++ rest) rest = ans := by
  simp [used]

/-- SendCmd from the frame's beginning, for a script on which the poll ends. -/
theorem leads_of_refSend {frame rest : List Byte} {r : Byte} (ret : Ret) (hs : CtlAlone s)
    (hframe : frame.length = 6) (h : refSend s.cfg s.env.card = some (r, rest)) :
    Leads (s.env.card.length - rest.length + 1) (goto (.dummy1 frame ret) (csDeassert s))
      (talked (afterR1 s.cfg ret r) .asserted (sendEvents frame (used s.env.card rest)) rest s) := by
  obtain ⟨d, first, mid, hcard, hfirst, hpoll⟩ := refSend_eq_some h
  obtain ⟨polled, rfl, hl⟩ := leads_of_frame ret hs hframe hcard hfirst hpoll
  have hused : s.env.card = (d :: first ++ polled) ++ rest := by
    rw [hcard, List.append_assoc, List.cons_append]
  have hsteps : s.env.card.length - rest.length + 1 = polled.length + 9 := by
    rw [hused]
    simp [hfirst]
    omega
  rwa [hsteps, hused, used_append]

end

/-- A command's encoding is six bytes (30_encoding.md R80). -/
theorem encode_length_of_sdcmd48 {i : Instr} (hp : i.port = .sdcmd48) : (encode i).length = 6 := by
  obtain ⟨idx, arg, crc, he, -⟩ := decodeFrame_of_encode hp
  rw [he]
  rfl

/-- Settles O12: `exec` deselects, and the framer's steps from there are the bracket's rest, the frame and the poll. -/
theorem sendCmdTranscript : Obligations.SendCmdTranscript := by
  intro i s called ret r rest hp hk hs h
  refine ⟨goto (.dummy1 (encode i) ret) (csDeassert s), ?_, ?_⟩
  · rw [exec_of_sdcmd48 s hp, beginFrame_of_send _ hk]
  · exact (leads_of_refSend ret hs (encode_length_of_sdcmd48 hp) h).runs

end Sys2Proof.Machine
end

section
/-! SUPPORT. INIT's statements (40_framer_and_init.md R130 to R145): CTL carries out each stretch of INIT's pseudocode, and
with it the whole of INIT. -/

namespace Sys2Proof.Machine

/-! ## Issue and power-up -/

/-- The state after HOST's issue of INIT (60_exceptions.md R300). -/
def initIssued (s : State) : State :=
  { s with
    busy := true, op := some .init, k := .start .init, hist := s.hist ++ [.issue 0x01#8 []] }

theorem exec_init_of_ready {s : State} (hs : Ready s) : exec .init s = .next (initIssued s) := by
  obtain ⟨⟨hf, hr⟩, hb, -, -⟩ := hs
  exact issue_of_ready .init .init s.latch hf hr hb

theorem ctlAlone_initIssued {s : State} (hs : Ready s) : CtlAlone (initIssued s) :=
  ⟨hs.1, rfl, hs.2.2.2⟩

/-- The power-up exchanges, and the call of CMD0 in the last one's step (R131, log 6). -/
theorem leads_of_clocks {s : State} (hs : CtlAlone s) (left : Nat) :
    Leads left (goto (afterClocks left) s)
      (goto (.send frameCmd0 .goIdle) (exchanges (List.replicate left filler) s)) := by
  induction left generalizing s with
  | zero => exact Leads.refl _
  | succ left ih =>
    have hnext : Leads left (goto (afterClocks left) (xchg filler s)) _ := ih hs
    exact hnext.cons hs rfl (.of_not_send nofun) rfl

/-- INIT from its first step to the call of CMD0. -/
theorem leads_of_powerUp {s : State} (hs : CtlAlone s) (hk : s.k = .start .init) :
    Leads (s.cfg.nPwrupBytes + 1) s
      (goto (.send frameCmd0 .goIdle)
        (exchanges (List.replicate s.cfg.nPwrupBytes filler) (csDeassert s))) := by
  have hclocks := leads_of_clocks (s := csDeassert s) hs s.cfg.nPwrupBytes
  refine hclocks.cons hs (by simp [ctlHasStep, hk]) (.of_not_send (by simp [hk])) ?_
  simp only [ctlMove, ctlStep, hk]
  rfl

/-- Settles O44: the bytes are whatever the card answers to the power-up exchanges. -/
theorem initClocksTheDeselectedCard : Obligations.InitClocksTheDeselectedCard := by
  intro s hs
  refine ⟨_, _, answers (List.replicate s.cfg.nPwrupBytes filler) (csDeassert (initIssued s)),
    exec_init_of_ready hs, (leads_of_powerUp (ctlAlone_initIssued hs) rfl).runs, by simp, ?_⟩
  rw [goto_exchanges_replicate, talked_csDeassert]
  rfl

/-! ## Stretches of the pseudocode -/

/-- With CTL alone at point `k` and the line at level `c`, CTL carries out what the pseudocode makes of the card's script: it
comes to the point the value leads to, with the line at `c'` and the stretch's events recorded, and has made one
exchange per answer used. -/
def Carries {α : Type} (p : Params) (c : Cs) (k : Kont) (talk : List Byte → Talk α) (c' : Cs)
    (after : α → Kont) : Prop :=
  ∀ (s : State) (a : α) (events : List Event) (rest : List Byte),
    CtlAlone s → s.cfg = p → s.sdCs = c → s.k = k → talk s.env.card = some (a, events, rest) →
    (∃ n, Leads n s (talked (after a) c' events rest s)) ∧
      events.countP isExchange + rest.length = s.env.card.length

theorem talked_self {s : State} {c : Cs} {k : Kont} (hc : s.sdCs = c) (hk : s.k = k) :
    talked k c [] s.env.card s = s := by
  subst hc hk
  simp [talked]

theorem goto_self {s : State} {k : Kont} (hk : s.k = k) : goto k s = s := by
  subst hk
  rfl

section
variable {α β : Type} {p : Params} {c c₁ c₂ : Cs} {k : Kont}

/-- A value alone, where CTL is already at the point it leads to. -/
theorem Carries.quiet {after : α → Kont} (a : α) (hk : k = after a) :
    Carries p c k (Talk.quiet a) c after := by
  intro s b events rest hs hp hc hsk h
  obtain ⟨rfl, rfl, rfl⟩ := Talk.quiet_eq_some.1 h
  refine ⟨⟨0, ?_⟩, by simp⟩
  rw [talked_self hc (hsk.trans hk)]
  exact Leads.refl s

/-- Two stretches in turn. -/
theorem Carries.andThen {first : List Byte → Talk α} {next : α → List Byte → Talk β}
    {mid : α → Kont} {after : β → Kont} (hfirst : Carries p c k first c₁ mid)
    (hnext : ∀ a, Carries p c₁ (mid a) (next a) c₂ after) :
    Carries p c k (fun ans => (first ans).andThen next) c₂ after := by
  intro s b events rest hs hp hc hk h
  obtain ⟨a, early, left, late, ha, hb, rfl⟩ := Talk.andThen_eq_some.1 h
  obtain ⟨⟨m, hm⟩, hcount⟩ := hfirst s a early left hs hp hc hk ha
  obtain ⟨⟨n, hn⟩, hcount'⟩ := hnext a (talked (mid a) c₁ early left s) b late rest hs hp rfl rfl hb
  rw [talked_talked] at hn
  refine ⟨⟨m + n, hm.trans hn⟩, ?_⟩
  change late.countP isExchange + rest.length = left.length at hcount'
  rw [List.countP_append]
  omega

/-- A decision: CTL and the pseudocode take the same branch. -/
theorem Carries.ite {P : Prop} [Decidable P] {k' : Kont} {talk talk' : List Byte → Talk α}
    {after : α → Kont} (h : P → Carries p c k talk c₁ after)
    (h' : ¬P → Carries p c k' talk' c₁ after) :
    Carries p c (if P then k else k') (fun ans => if P then talk ans else talk' ans) c₁ after := by
  split_ifs with hP
  · exact h hP
  · exact h' hP

end

theorem countP_isExchange_map (cs : Cs) (o : Byte) (ans : List Byte) :
    (ans.map (Event.busX cs o)).countP isExchange = ans.length := by
  rw [List.countP_map]
  exact List.countP_eq_length.2 fun _ _ => rfl

/-- A SendCmd makes one exchange per answer (R145). -/
theorem countP_isExchange_zipWith (cs : Cs) {outs ans : List Byte} (h : ans.length = outs.length) :
    (List.zipWith (Event.busX cs) outs ans).countP isExchange = ans.length := by
  induction outs generalizing ans with
  | nil => simp_all
  | cons o outs ih =>
    cases ans with
    | nil => cases h
    | cons a ans =>
      rw [List.zipWith_cons_cons, List.countP_cons_of_pos rfl, ih (Nat.succ.inj h),
        List.length_cons]

section
variable (p : Params)

/-- A call of SendCmd on a command's frame (R122). -/
theorem Carries.send (c : Cs) {i : Instr} (hp : i.port = .sdcmd48) (ret : Ret) :
    Carries p c (.send (encode i) ret) (refSendCmd p (encode i)) .asserted (afterR1 p ret) := by
  intro s r events rest hs hcfg hc hk h
  subst hcfg
  obtain ⟨⟨_, _⟩, hsend, he⟩ := Option.map_eq_some_iff.1 h
  cases he
  obtain ⟨d, first, mid, hcard, hfirst, hpoll⟩ := refSend_eq_some hsend
  have hframe := encode_length_of_sdcmd48 hp
  obtain ⟨polled, rfl, hl⟩ := leads_of_frame ret hs hframe hcard hfirst hpoll
  have hscript : s.env.card = (d :: first ++ polled) ++ rest := by
    rw [hcard, List.append_assoc, List.cons_append]
  rw [hscript, used_append]
  refine ⟨⟨_, hl.cons hs (ctlHasStep_of_call (by rw [hk]; rfl)) (hk ▸ .of_encode hp ret)
    (ctlMove_of_send hk)⟩, ?_⟩
  have hlen : (first ++ polled).length =
      (filler :: encode i ++ List.replicate polled.length filler).length := by simp; omega
  have hbracket :
      [Event.csDeassert, .busX .deasserted filler d, .csAssert].countP isExchange = 1 := rfl
  rw [sendEvents_of_answers _ _ _ _ hfirst, List.countP_append, countP_isExchange_zipWith _ hlen,
    hbracket, List.cons_append, List.cons_append, List.length_cons, List.length_append (bs := rest)]
  omega

/-- SendACmd: a failed CMD55 returns its own R1, on which the caller decides as on the A-command's (R123). -/
theorem Carries.sendA {i : Instr} (hp : i.port = .sdcmd48) {prefixed ret : Ret}
    (hret : ∀ r, afterR1 p prefixed r =
      if r1AtMostIdle r then .send (encode i) ret else afterR1 p ret r) :
    Carries p .asserted (.send (frameCmd55 p) prefixed) (refSendA p (encode i)) .asserted
      (afterR1 p ret) := by
  refine .andThen (.send p .asserted (i := .cmd55 p.crcPlaceholder) rfl prefixed) fun r => ?_
  rw [hret]
  exact .ite (fun _ => .send p .asserted hp ret) fun _ => .quiet r rfl

/-- An op-cond poll: a loop whose attempts end in won, or go on, and which with none left is lost (R134, R141). -/
theorem Carries.opCond {loop : Nat → Kont} {attempt : List Byte → Talk Byte} {won lost : Kont}
    (hlost : loop 0 = lost)
    (hstep : ∀ n, Carries p .asserted (loop (n + 1)) attempt .asserted
      fun r => if r1Ready r then won else loop n) (n : Nat) :
    Carries p .asserted (loop n) (refOpCond attempt n) .asserted
      fun ready => if ready then won else lost := by
  induction n with
  | zero => exact .quiet false hlost
  | succ n ih => exact .andThen (hstep n) fun r => .ite (fun _ => .quiet true rfl) fun _ => ih

/-- The trailing bytes still to come after those received, with the decision on all four in the last one's step. -/
theorem leads_of_tail (what : TailOf) {got more rest : List Byte} {s : State} (hs : CtlAlone s)
    (hlen : got.length + more.length = 4) (hcard : s.env.card = more ++ rest) :
    Leads more.length (goto (nextTail s.cfg what got) s)
      (goto (afterTail s.cfg what (got ++ more))
        (exchanges (List.replicate more.length filler) s)) := by
  induction more generalizing got s with
  | nil =>
    have hfull : 4 ≤ got.length := hlen.ge
    rw [nextTail, if_pos hfull, List.append_nil]
    exact Leads.refl _
  | cons a more ih =>
    have hshort : ¬4 ≤ got.length := by rw [List.length_cons] at hlen; omega
    have hlen' : (got ++ [a]).length + more.length = 4 := by
      rw [List.length_cons] at hlen
      simp
      omega
    have hrest : Leads more.length (goto (nextTail s.cfg what (got ++ [a])) (xchg filler s)) _ :=
      ih (s := xchg filler s) hs hlen' (by simp [hcard])
    rw [List.append_assoc] at hrest
    rw [nextTail, if_neg hshort]
    refine hrest.cons hs rfl (.of_not_send nofun) ?_
    have hrx : rxByte s = a := by simp [rxByte, cardByte, hcard]
    rw [← hrx]
    rfl

/-- Four trailing bytes (R133, R135). -/
theorem Carries.tail (what : TailOf) :
    Carries p .asserted (.tail what []) refTail .asserted (afterTail p what) := by
  intro s ocr events rest hs hcfg hc hk h
  subst hcfg
  obtain ⟨_, hskip, he⟩ := Option.map_eq_some_iff.1 h
  cases he
  obtain ⟨hfour, hrest⟩ := refSkip_eq_some.1 hskip
  have hlen : (s.env.card.take 4).length = 4 := by simpa using hfour
  have hcard : s.env.card = s.env.card.take 4 ++ rest := by rw [← hrest, List.take_append_drop]
  have hl := leads_of_tail what (got := []) hs (by simpa using hfour) hcard
  have hstart : goto (nextTail s.cfg what []) s = s := goto_self hk
  rw [hstart, goto_exchanges_replicate_of_script _ _ hcard, hc] at hl
  refine ⟨⟨_, hl⟩, ?_⟩
  have hcount : (receiveEvents (s.env.card.take 4)).countP isExchange = 4 :=
    (countP_isExchange_map .asserted _ _).trans hlen
  rw [hcount, ← hrest, List.length_drop]
  omega

/-- The power-up (R131). -/
theorem Carries.powerUp (c : Cs) :
    Carries p c (.start .init) (refPowerUp p) .deasserted fun _ => .send frameCmd0 .goIdle := by
  intro s _ events rest hs hcfg hc hk h
  subst hcfg
  obtain ⟨_, hskip, he⟩ := Option.map_eq_some_iff.1 h
  cases he
  obtain ⟨hfits, hrest⟩ := refSkip_eq_some.1 hskip
  have hlen : (s.env.card.take s.cfg.nPwrupBytes).length = s.cfg.nPwrupBytes := by simpa using hfits
  have hcard : (csDeassert s).env.card = s.env.card.take s.cfg.nPwrupBytes ++ rest := by
    rw [← hrest, List.take_append_drop]; rfl
  have hl := leads_of_powerUp hs hk
  have hsent := goto_exchanges_replicate_of_script (.send frameCmd0 .goIdle) filler hcard
  rw [hlen] at hsent
  rw [hsent, talked_csDeassert] at hl
  refine ⟨⟨_, hl⟩, ?_⟩
  have hcount : (deselectedEvents (s.env.card.take s.cfg.nPwrupBytes)).countP isExchange = _ :=
    (countP_isExchange_map .deasserted _ _).trans hlen
  rw [List.countP_cons, hcount, ← hrest, List.length_drop]
  simp [isExchange]
  omega

/-! ### INIT's paths -/

/-- With an R1 above 0x01 an attempt is not ready. -/
theorem not_r1Ready_of_not_r1AtMostIdle {r : Byte} (h : ¬r1AtMostIdle r) : ¬r1Ready r := by
  rintro rfl
  exact h (by decide)

/-- The SD v2 op-cond poll (R134). -/
theorem Carries.hcsLoop (n : Nat) :
    Carries p .asserted (hcsLoop p n) (refOpCond (refSendA p (frameAcmd41Hcs p)) n) .asserted
      fun ready => if ready then .send (frameCmd58 p) .readOcr else initEnd ctNone := by
  refine .opCond p rfl (fun n => ?_) n
  refine Carries.sendA p (i := .acmd41Hcs p.crcPlaceholder) rfl (ret := .hcsPoll (n + 1))
    fun r => ?_
  change afterHcsPrefix p (n + 1) r = _
  unfold afterHcsPrefix
  split_ifs with hr
  · rfl
  · exact (if_neg (not_r1Ready_of_not_r1AtMostIdle hr)).symm

/-- The SD v2 path (R133 to R136). -/
theorem Carries.sdV2 :
    Carries p .asserted (.tail .ifCond []) (refSdV2 p) .asserted initEnd :=
  .andThen (.tail p .ifCond) fun _ =>
    .ite
      (fun _ => .andThen (.hcsLoop p p.nOpcond) fun _ =>
        .ite
          (fun _ => .andThen (.send p _ (i := .cmd58 p.crcPlaceholder) rfl .readOcr) fun _ =>
            .ite (fun _ => .andThen (.tail p .ocr) fun _ => .quiet _ rfl) fun _ => .quiet _ rfl)
          fun _ => .quiet _ rfl)
      fun _ => .quiet _ rfl

/-- An attempt of the legacy op-cond poll, with the command the classification chose (R141). -/
theorem Carries.legacyAttempt (ty : BitVec 4) (n : Nat) :
    Carries p .asserted (legacyLoop p ty (n + 1)) (refLegacyAttempt p ty) .asserted
      (afterR1 p (.legacyPoll (n + 1) ty)) := by
  unfold Machine.legacyLoop refLegacyAttempt
  rw [if_neg n.succ_ne_zero]
  split_ifs with hty
  · subst hty
    refine Carries.sendA p (i := .acmd41Zero p.crcPlaceholder) rfl fun r => ?_
    change afterLegacyPrefix p (n + 1) r = _
    unfold afterLegacyPrefix
    split_ifs with hr
    · rfl
    · exact (if_neg (not_r1Ready_of_not_r1AtMostIdle hr)).symm
  · exact .send p _ (i := .cmd1 p.crcPlaceholder) rfl _

/-- The legacy path (R139 to R142). -/
theorem Carries.legacy :
    Carries p .asserted (.send (frameCmd55 p) .probePrefix) (refLegacy p) .asserted initEnd := by
  refine .andThen (.sendA p (i := .acmd41Zero p.crcPlaceholder) rfl (ret := .probe) fun _ => rfl)
    fun r => ?_
  refine .andThen (.opCond p rfl (.legacyAttempt p (classifyProbe r)) p.nOpcond) fun _ => ?_
  refine .ite (fun _ => ?_) fun _ => .quiet _ rfl
  refine .andThen (.send p _ (i := .cmd16 p.crcPlaceholder) rfl (.setBlocklen _)) fun r16 => ?_
  exact .quiet _ (apply_ite initEnd _ _ _).symm

/-- INIT up to its release (R130). -/
theorem Carries.classify (c : Cs) :
    Carries p c (.start .init) (refClassify p) .asserted initEnd :=
  .andThen (.powerUp p c) fun _ =>
    .andThen (.send p _ (i := .cmd0) rfl .goIdle) fun _ =>
      .ite
        (fun _ => .andThen (.send p _ (i := .cmd8) rfl .ifCond) fun _ =>
          .ite (fun _ => .sdV2 p) fun _ => .legacy p)
        fun _ => .quiet _ rfl

end

/-! ## The whole of INIT -/

/-- The state after INIT's release and return (R124, R143). -/
def initEnded (ty : BitVec 4) (b : Byte) (rest : List Byte) (s : State) : State :=
  { s with
    ct := ty, sdCs := .deasserted, busy := false, op := none, k := .idle, result := initResult ty
    hist := s.hist ++ [.csDeassert, .busX .deasserted filler b, .done s.op (initResult ty)]
    env := { s.env with card := rest } }

theorem leads_of_initEnd {s : State} {ty : BitVec 4} {b : Byte} {rest : List Byte} (hs : CtlAlone s)
    (hk : s.k = initEnd ty) (hcard : s.env.card = b :: rest) :
    Leads 2 s (initEnded ty b rest s) := by
  have hend : ctlMove (goto (.releaseDummy (.init ty)) (csDeassert s)) = initEnded ty b rest s := by
    change stepInitEnd ty _ = _
    rw [stepInitEnd_eq]
    simp [initEnded, goto, csDeassert, cardByte, hcard]
  have hdummy : Leads 1 (goto (.releaseDummy (.init ty)) (csDeassert s)) (initEnded ty b rest s) :=
    (Leads.refl _).cons hs rfl (.of_not_send nofun) hend
  refine hdummy.cons hs (by simp [ctlHasStep, hk, initEnd]) (.of_not_send (by simp [hk, initEnd])) ?_
  simp only [ctlMove, ctlStep, hk, initEnd]
  rfl

/-- The release uses one answer. -/
theorem refRelease_eq_some {ans rest : List Byte} {events : List Event} {u : Unit}
    (h : refRelease ans = some (u, events, rest)) :
    ∃ b, ans = b :: rest ∧ events = [.csDeassert, .busX .deasserted filler b] := by
  obtain ⟨_, hskip, he⟩ := Option.map_eq_some_iff.1 h
  cases he
  obtain ⟨hlen, hrest⟩ := refSkip_eq_some.1 hskip
  cases ans with
  | nil => cases hlen
  | cons b more => exact ⟨b, congrArg _ hrest, rfl⟩

/-- Settles O45: INIT's stretch up to the release, then the release. -/
theorem initRunsItsPseudocode : Obligations.InitRunsItsPseudocode := by
  intro s ty events rest hs h
  have halone := ctlAlone_initIssued hs
  obtain ⟨ty', early, mid, late, hclass, hrel, rfl⟩ := Talk.andThen_eq_some.1 h
  obtain ⟨_, released, left, _, hrelease, hquiet, rfl⟩ := Talk.andThen_eq_some.1 hrel
  obtain ⟨rfl, rfl, rfl⟩ := Talk.quiet_eq_some.1 hquiet
  obtain ⟨b, rfl, rfl⟩ := refRelease_eq_some hrelease
  obtain ⟨⟨n, hn⟩, hcount⟩ :=
    Carries.classify s.cfg s.sdCs (initIssued s) ty' early _ halone rfl rfl rfl hclass
  have hend := leads_of_initEnd (s := talked (initEnd ty') .asserted early (b :: left) (initIssued s))
    halone rfl rfl
  constructor
  · have hstate :
        initEnded ty' b left (talked (initEnd ty') .asserted early (b :: left) (initIssued s)) =
          { s with
            ct := ty', sdCs := .deasserted, op := none, result := initResult ty'
            hist := s.hist ++ .issue 0x01#8 [] ::
              (early ++ ([.csDeassert, .busX .deasserted filler b] ++ []) ++
                [.done (some .init) (initResult ty')])
            env := { s.env with card := left } } := by
      obtain ⟨-, hbusy, hk, -⟩ := hs
      simp [initEnded, talked, initIssued, hbusy, hk]
    exact ⟨_, _, exec_init_of_ready hs, hstate ▸ (hn.trans hend).runs⟩
  · change early.countP isExchange + (left.length + 1) = s.env.card.length at hcount
    simp [List.countP_append, isExchange]
    omega

end Sys2Proof.Machine
end

section
/-! SUPPORT. INIT's end within its budgets (40_framer_and_init.md R130, R145; 70_reset_and_hazards.md R337): a count of CTL's
steps that falls at every step, whatever the card answers. -/

namespace Sys2Proof.Machine

/-! ## The most steps INIT still takes from a point -/

/-- From the call of an op-cond poll with so many attempts left, of two commands each, to INIT's end (R134, R141): what
comes after the poll is one command, four trailing bytes and the release at most. -/
def opCondSteps (p : Params) (tmr : Nat) : Nat := tmr * (2 * sendBound p) + (sendBound p + 6)

/-- From the return of an R1 to INIT's end. -/
def returnSteps (p : Params) : Ret → Nat
  | .goIdle => 3 * sendBound p + opCondSteps p p.nOpcond
  | .ifCond => 2 * sendBound p + opCondSteps p p.nOpcond
  | .probePrefix => sendBound p + opCondSteps p p.nOpcond
  | .probe => opCondSteps p p.nOpcond
  | .hcsPrefix tmr | .legacyPrefix tmr => sendBound p + opCondSteps p (tmr - 1)
  | .hcsPoll tmr | .legacyPoll tmr _ => opCondSteps p (tmr - 1)
  | .readOcr => 6
  | .setBlocklen _ => 2
  | .solo | .readBlock => 0

/-- From a point of INIT to its end. -/
def initSteps (p : Params) : Kont → Nat
  | .start _ => p.nPwrupBytes + 2 + (4 * sendBound p + opCondSteps p p.nOpcond)
  | .clocks left => max 1 left + (4 * sendBound p + opCondSteps p p.nOpcond)
  | .send frame ret => max 1 frame.length + 4 + max 1 p.nR1 + returnSteps p ret
  | .dummy1 frame ret => max 1 frame.length + 3 + max 1 p.nR1 + returnSteps p ret
  | .select frame ret => max 1 frame.length + 2 + max 1 p.nR1 + returnSteps p ret
  | .dummy2 frame ret => max 1 frame.length + 1 + max 1 p.nR1 + returnSteps p ret
  | .transmit rest ret => max 1 rest.length + max 1 p.nR1 + returnSteps p ret
  | .poll left ret => max 1 left + returnSteps p ret
  | .tail .ifCond got => max 1 (4 - got.length) + opCondSteps p p.nOpcond
  | .tail .ocr got => max 1 (4 - got.length) + 2
  | .releaseDesel _ => 2
  | .releaseDummy _ => 1
  | _ => 0

section
variable (p : Params)

/-- A call of SendCmd on six bytes takes at most `sendBound` steps up to the return of the R1 (R145). -/
theorem initSteps_send {frame : List Byte} (hlen : frame.length = 6) (ret : Ret) :
    initSteps p (.send frame ret) = sendBound p + returnSteps p ret := by
  simp only [initSteps, sendBound, hlen]
  omega

theorem opCondSteps_succ (tmr : Nat) :
    opCondSteps p (tmr + 1) = 2 * sendBound p + opCondSteps p tmr := by
  unfold opCondSteps
  ring

theorem sendBound_add_le_opCondSteps (tmr : Nat) : sendBound p + 6 ≤ opCondSteps p tmr :=
  Nat.le_add_left _ _

/-- An attempt left is two commands more. -/
theorem opCondSteps_of_ne_zero {tmr : Nat} (h : tmr ≠ 0) :
    opCondSteps p tmr = 2 * sendBound p + opCondSteps p (tmr - 1) := by
  obtain ⟨n, rfl⟩ := Nat.exists_eq_succ_of_ne_zero h
  exact opCondSteps_succ p n

/-! ### No decision takes more than is left -/

theorem initSteps_poll (left : Nat) (ret : Ret) :
    initSteps p (.poll left ret) = max 1 left + returnSteps p ret := rfl

theorem initSteps_tail_ifCond (got : List Byte) :
    initSteps p (.tail .ifCond got) = max 1 (4 - got.length) + opCondSteps p p.nOpcond := rfl

theorem initSteps_tail_ocr (got : List Byte) :
    initSteps p (.tail .ocr got) = max 1 (4 - got.length) + 2 := rfl

theorem initSteps_initEnd (ty : BitVec 4) : initSteps p (initEnd ty) = 2 := rfl

theorem initSteps_hcsLoop_le (tmr : Nat) : initSteps p (hcsLoop p tmr) ≤ opCondSteps p tmr := by
  have hend := sendBound_add_le_opCondSteps p tmr
  unfold hcsLoop
  split_ifs with htmr
  · rw [initSteps_initEnd]
    omega
  · rw [initSteps_send p (by rfl), returnSteps, opCondSteps_of_ne_zero p htmr]
    omega

theorem initSteps_legacyLoop_le (ty : BitVec 4) (tmr : Nat) :
    initSteps p (legacyLoop p ty tmr) ≤ opCondSteps p tmr := by
  have hend := sendBound_add_le_opCondSteps p tmr
  unfold legacyLoop
  split_ifs with htmr
  · rw [initSteps_initEnd]
    omega
  · rw [initSteps_send p (by rfl), returnSteps, opCondSteps_of_ne_zero p htmr]
    omega
  · rw [initSteps_send p (by rfl), returnSteps, opCondSteps_of_ne_zero p htmr]
    omega

/-- What a caller in INIT does with its R1 takes no more than its return has left. -/
theorem initSteps_afterR1_le {ret : Ret} (r : Byte) (hret : retOp ret = some .init) :
    initSteps p (afterR1 p ret r) ≤ returnSteps p ret := by
  have hbound : 11 ≤ sendBound p := by unfold sendBound; omega
  cases ret with
  | solo | readBlock => cases hret
  | goIdle =>
    have hend := sendBound_add_le_opCondSteps p p.nOpcond
    simp only [afterR1, afterGoIdle, returnSteps]
    split_ifs
    · rw [initSteps_send p (by rfl), returnSteps]
      omega
    · rw [initSteps_initEnd]
      omega
  | ifCond =>
    simp only [afterR1, afterIfCond, returnSteps]
    split_ifs
    · rw [initSteps_tail_ifCond, List.length_nil]
      omega
    · rw [initSteps_send p (by rfl), returnSteps]
      omega
  | hcsPrefix tmr =>
    have hloop := initSteps_hcsLoop_le p (tmr - 1)
    simp only [afterR1, afterHcsPrefix, returnSteps]
    split_ifs
    · rw [initSteps_send p (by rfl), returnSteps]
    · omega
  | hcsPoll tmr =>
    have hend := sendBound_add_le_opCondSteps p (tmr - 1)
    simp only [afterR1, afterHcsPoll, returnSteps]
    split_ifs
    · rw [initSteps_send p (by rfl), returnSteps]
      exact hend
    · exact initSteps_hcsLoop_le p _
  | readOcr =>
    simp only [afterR1, afterReadOcr, returnSteps]
    split_ifs
    · exact le_rfl
    · rw [initSteps_initEnd]
      omega
  | probePrefix =>
    have hloop := initSteps_legacyLoop_le p (classifyProbe r) p.nOpcond
    simp only [afterR1, afterProbePrefix, returnSteps]
    split_ifs
    · rw [initSteps_send p (by rfl), returnSteps]
    · unfold afterProbe
      omega
  | probe => exact initSteps_legacyLoop_le p _ _
  | legacyPrefix tmr =>
    have hloop := initSteps_legacyLoop_le p ctSd1 (tmr - 1)
    simp only [afterR1, afterLegacyPrefix, returnSteps]
    split_ifs
    · rw [initSteps_send p (by rfl), returnSteps]
    · omega
  | legacyPoll tmr ty =>
    have hend := sendBound_add_le_opCondSteps p (tmr - 1)
    simp only [afterR1, afterLegacyPoll, returnSteps]
    split_ifs
    · rw [initSteps_send p (by rfl), returnSteps]
      omega
    · exact initSteps_legacyLoop_le p _ _
  | setBlocklen ty =>
    simp only [afterR1, afterSetBlocklen, returnSteps]
    split_ifs <;> exact le_rfl

/-- A poll's receive takes one of the steps left (R122). -/
theorem initSteps_nextPoll_lt (left : Nat) {ret : Ret} (r : Byte) (hret : retOp ret = some .init) :
    initSteps p (nextPoll p (left - 1) ret r) < initSteps p (.poll left ret) := by
  have hreturn := initSteps_afterR1_le p r hret
  rw [initSteps_poll]
  unfold nextPoll
  split_ifs with hend
  · omega
  · have hleft : left - 1 ≠ 0 := fun h => hend (.inr h)
    rw [initSteps_poll]
    omega

theorem initSteps_afterTransmit_lt (b : Byte) (bs : List Byte) (ret : Ret) :
    initSteps p (afterTransmit p bs ret) < initSteps p (.transmit (b :: bs) ret) := by
  cases bs with
  | nil => simp [afterTransmit, initSteps]
  | cons b' bs => simp [afterTransmit, initSteps]

theorem initSteps_nextTail_lt (what : TailOf) (got : List Byte) (b : Byte) :
    initSteps p (nextTail p what (got ++ [b])) < initSteps p (.tail what got) := by
  have hloop := initSteps_hcsLoop_le p p.nOpcond
  have hend := sendBound_add_le_opCondSteps p p.nOpcond
  unfold nextTail
  split_ifs with hfull
  · cases what with
    | ifCond =>
      rw [initSteps_tail_ifCond]
      simp only [afterTail]
      split_ifs
      · omega
      · rw [initSteps_initEnd]
        omega
    | ocr =>
      change 2 < max 1 (4 - got.length) + 2
      omega
  · have hlen : (got ++ [b]).length = got.length + 1 := List.length_append
    cases what with
    | ifCond =>
      rw [initSteps_tail_ifCond, initSteps_tail_ifCond]
      omega
    | ocr =>
      rw [initSteps_tail_ocr, initSteps_tail_ocr]
      omega

theorem initSteps_afterClocks_le (left : Nat) :
    initSteps p (afterClocks left) ≤ max 1 left + (4 * sendBound p + opCondSteps p p.nOpcond) := by
  unfold afterClocks
  split_ifs
  · rw [initSteps_send p (by rfl), returnSteps]
    omega
  · exact le_rfl

theorem initSteps_afterClocks_lt (left : Nat) :
    initSteps p (afterClocks (left - 1)) < initSteps p (.clocks left) := by
  unfold afterClocks
  split_ifs
  · rw [initSteps_send p (by rfl), returnSteps, initSteps]
    omega
  · simp only [initSteps]
    omega

end

/-! ## A step of INIT -/

/-- Before INIT's last step CTL's move talks to the card, takes one of the steps left and changes nothing else. -/
theorem ctlMove_of_init {s : State} (hop : kontOp s.k = some .init)
    (hlast : ∀ e, s.k ≠ .releaseDummy e) :
    ∃ k c events rest, ctlMove s = talked k c events rest s ∧
      initSteps s.cfg k < initSteps s.cfg s.k := by
  have hcall {ret : Ret} (h : kontRet s.k = some ret) : retOp ret = some .init :=
    (kontOp_of_call h).symm.trans hop
  unfold ctlMove ctlStep
  cases hk : s.k with rw [hk] at hop
  | start op =>
    cases hop
    refine ⟨_, _, _, _, rfl, ?_⟩
    have hclocks := initSteps_afterClocks_le s.cfg s.cfg.nPwrupBytes
    change initSteps s.cfg (afterClocks _) < s.cfg.nPwrupBytes + 2 + _
    omega
  | clocks left => exact ⟨_, _, _, _, rfl, initSteps_afterClocks_lt s.cfg left⟩
  | send frame ret | dummy1 frame ret | select frame ret | dummy2 frame ret =>
    exact ⟨_, _, _, _, rfl, by simp only [initSteps]; omega⟩
  | transmit rest ret =>
    cases rest with
    | nil =>
      exact ⟨.poll s.cfg.nR1 ret, s.sdCs, [], s.env.card,
        by simp [talked, stepTransmit, goto], by simp [initSteps]⟩
    | cons b bs => exact ⟨_, _, _, _, rfl, initSteps_afterTransmit_lt s.cfg b bs ret⟩
  | poll left ret =>
    exact ⟨_, _, _, _, rfl, initSteps_nextPoll_lt s.cfg left _ (hcall (by rw [hk]; rfl))⟩
  | tail what got => exact ⟨_, _, _, _, rfl, initSteps_nextTail_lt s.cfg what got _⟩
  | releaseDesel e => exact ⟨_, _, _, _, rfl, Nat.one_lt_two⟩
  | releaseDummy e => exact absurd hk (hlast e)
  | _ => cases hop

/-- INIT at work: CTL alone moves, at a point of INIT, and what carries its calls and its classification to the end. -/
structure InitRunning (s : State) : Prop where
  alone : CtlAlone s
  op : s.op = some .init
  bus : BusInv s
  frames : Framed s.cfg s.k
  pending : ∀ ty, pendingType s.k = some ty → ctLegal ty

/-- The frame at a call is a command's, whatever the placeholder's end bit. -/
theorem callsCommand_of_framed {p : Params} {k : Kont} (h : Framed p k) : CallsCommand k := by
  rintro frame ret rfl
  change calledFrame p frame ret at h
  cases ret with
  | solo => exact h.elim
  | goIdle => exact ⟨.cmd0, rfl, h⟩
  | ifCond => exact ⟨.cmd8, rfl, h⟩
  | hcsPrefix | probePrefix | legacyPrefix => exact ⟨.cmd55 p.crcPlaceholder, rfl, h⟩
  | hcsPoll => exact ⟨.acmd41Hcs p.crcPlaceholder, rfl, h⟩
  | readOcr => exact ⟨.cmd58 p.crcPlaceholder, rfl, h⟩
  | probe => exact ⟨.acmd41Zero p.crcPlaceholder, rfl, h⟩
  | legacyPoll tmr ty =>
    obtain hty | hty := eq_or_ne ty ctSd1
    · exact ⟨.acmd41Zero p.crcPlaceholder, rfl, h.trans (if_pos hty)⟩
    · exact ⟨.cmd1 p.crcPlaceholder, rfl, h.trans (if_neg hty)⟩
  | setBlocklen => exact ⟨.cmd16 p.crcPlaceholder, rfl, h⟩
  | readBlock =>
    obtain ⟨addr, h⟩ := h
    exact ⟨.cmd17 addr p.crcPlaceholder, rfl, h⟩

theorem InitRunning.kontOp_eq {s : State} (h : InitRunning s) : kontOp s.k = some .init :=
  h.bus.1.2.1.symm.trans h.op

theorem InitRunning.moves {s : State} (h : InitRunning s) : CtlMoves s where
  alone := h.alone
  hasStep := by
    have hop := h.kontOp_eq
    unfold ctlHasStep
    cases hk : s.k with
    | idle | payload => rw [hk] at hop; cases hop
    | _ => rfl
  command := callsCommand_of_framed h.frames

/-- A step of INIT before its last leaves INIT at work, with fewer steps to take. -/
theorem InitRunning.goes_on {s : State} (h : InitRunning s) (hlast : ∀ e, s.k ≠ .releaseDummy e) :
    ∃ t, step s = .next t ∧ InitRunning t ∧ t.cfg = s.cfg ∧
      initSteps t.cfg t.k < initSteps s.cfg s.k := by
  obtain ⟨k, c, events, rest, hmove, hlt⟩ := ctlMove_of_init h.kontOp_eq hlast
  have hstep := h.moves.step
  rw [hmove] at hstep
  refine ⟨_, hstep, ?_, rfl, hlt⟩
  have hframes : FrameInv s := frameInv_iff.2 ⟨h.bus.1, h.frames⟩
  refine ⟨h.alone, h.op, everyStepKeepsTheBusReleased _ _ h.bus hstep,
    (frameInv_iff.1 (everyStepKeepsFrames _ _ hframes hstep)).2, fun ty hty => ?_⟩
  obtain hissue | hgoes | hends := step_operation_cases hstep
  · exact absurd hissue.idle (by simp [h.alone.2.1])
  · exact (hgoes.goes.pending ty hty).elim id (h.pending ty)
  · exact absurd hends.busy (by simp [afterTurns, talked, h.alone.2.1])

/-- INIT has ended as R130 and R143 have it. -/
def InitOver (u : State) : Prop :=
  NoFault u ∧ Idle u ∧ u.sdCs = .deasserted ∧
    ((u.result = 0x00#8 ∧ CardUp u) ∨ (u.result = 0x10#8 ∧ u.ct = 0x0#4))

/-- INIT's last step ends it. -/
theorem InitRunning.ends_at_last_step {s : State} (h : InitRunning s) {e : EndOf}
    (hk : s.k = .releaseDummy e) : ∃ u, step s = .next u ∧ InitOver u := by
  refine ⟨_, h.moves.step, ?_⟩
  cases e with
  | readp code =>
    have hop := h.kontOp_eq
    rw [hk] at hop
    cases hop
  | init ty =>
    have hmove : ctlMove s = stepInitEnd ty s := by simp only [ctlMove, ctlStep, hk]; rfl
    have hlegal : ctLegal ty := h.pending ty (by rw [hk]; rfl)
    rw [hmove, stepInitEnd_eq]
    refine ⟨h.alone.1, ⟨rfl, rfl, h.alone.2.2⟩, h.bus.2 (by rw [hk]; rfl), ?_⟩
    by_cases hty : ty = ctNone
    · exact .inr ⟨if_pos hty, hty⟩
    · exact .inl ⟨if_neg hty, hlegal, hty⟩

/-- INIT ends within its count of steps. -/
theorem InitRunning.ends {s : State} (h : InitRunning s) :
    ∃ n u, n ≤ initSteps s.cfg s.k ∧ Runs n s u ∧ InitOver u := by
  induction hm : initSteps s.cfg s.k using Nat.strong_induction_on generalizing s with
  | _ m ih =>
    by_cases hlast : ∃ e, s.k = .releaseDummy e
    · obtain ⟨e, hk⟩ := hlast
      obtain ⟨u, hu, hover⟩ := h.ends_at_last_step hk
      have hone : 1 ≤ m := by rw [← hm, hk]; exact le_rfl
      exact ⟨1, u, hone, runs_succ.2 ⟨u, hu, rfl⟩, hover⟩
    · obtain ⟨t, ht, hrun, -, hlt⟩ := h.goes_on fun e hk => hlast ⟨e, hk⟩
      obtain ⟨n, u, hn, hruns, hover⟩ := ih _ (hm ▸ hlt) hrun rfl
      exact ⟨n + 1, u, by omega, runs_succ.2 ⟨t, ht, hruns⟩, hover⟩

/-- INIT's first step deselects the card, whatever its line was, and leaves INIT at work (R131). -/
theorem initRunning_of_first_step {s : State} (hs : Ready s) :
    ∃ t, step (initIssued s) = .next t ∧ InitRunning t ∧ t.cfg = s.cfg ∧
      t.k = afterClocks s.cfg.nPwrupBytes := by
  have halone := ctlAlone_initIssued hs
  have hmoves : CtlMoves (initIssued s) := ⟨halone, rfl, .of_not_send nofun⟩
  have hstep := hmoves.step
  have hop : OperationInv (initIssued s) := ⟨rfl, rfl, nofun⟩
  have hpending (ty : BitVec 4) : pendingType (afterClocks s.cfg.nPwrupBytes) ≠ some ty := by
    unfold afterClocks
    split_ifs <;> nofun
  have hbus : BusInv (afterTurns 1 (ctlMove (initIssued s))) :=
    ⟨everyStepKeepsOneOperation _ _ hop hstep, fun _ => rfl⟩
  exact ⟨_, hstep, ⟨halone, rfl, hbus, .afterClocks _ _,
    fun ty hty => absurd hty (hpending ty)⟩, rfl, rfl⟩

/-- Settles O46: after the first step INIT is at work, and what it still takes is within the bound. -/
theorem initAlwaysEnds : Obligations.InitAlwaysEnds := by
  intro s hs
  obtain ⟨t, ht, hrunning, hcfg, hk⟩ := initRunning_of_first_step hs
  obtain ⟨n, u, hn, hruns, hfault, hidle, hcs, hresult⟩ := hrunning.ends
  rw [hcfg, hk] at hn
  have hbound : n + 1 ≤ initBound s.cfg := by
    have hclocks := hn.trans (initSteps_afterClocks_le s.cfg _)
    have hloop : (2 * s.cfg.nOpcond + 5) * sendBound s.cfg =
        4 * sendBound s.cfg + (s.cfg.nOpcond * (2 * sendBound s.cfg) + sendBound s.cfg) := by ring
    rw [opCondSteps] at hclocks
    rw [initBound, hloop]
    omega
  exact ⟨_, n + 1, u, exec_init_of_ready hs, hbound, runs_succ.2 ⟨t, ht, hruns⟩, hfault, hidle,
    hcs, hresult⟩

end Sys2Proof.Machine
end

section
/-! SUPPORT. What READP and the write-sector operations do before any bus action (41_block_read.md R170, R171, R180): the
issue, and CTL's first step after it. -/

namespace Sys2Proof.Machine

/-! ## The issue and the first step -/

/-- The state after HOST's issue of an operation with some latches (60_exceptions.md R300). -/
def issued (i : Instr) (op : HostOp) (l : Latches) (s : State) : State :=
  { s with
    latch := l, busy := true, op := some op, k := .start op,
    hist := s.hist ++ [.issue (hostOpCode op) (encode i).tail] }

section
variable {s : State} (hs : Ready s)
include hs

theorem issue_of_ready_eq_issued (i : Instr) (op : HostOp) (l : Latches) :
    issue i op l s = .next (issued i op l s) :=
  issue_of_ready i op l hs.1.1 hs.1.2 hs.2.1

theorem ctlAlone_issued (i : Instr) (op : HostOp) (l : Latches) : CtlAlone (issued i op l s) :=
  ⟨hs.1, rfl, hs.2.2.2⟩

/-- The step after an issue is the operation's first line. -/
theorem step_issued (i : Instr) (op : HostOp) (l : Latches) :
    step (issued i op l s) = .next (afterTurns 1 (stepStart op (issued i op l s))) :=
  CtlMoves.step ⟨ctlAlone_issued hs i op l, rfl, .of_not_send nofun⟩

end

/-! ## The write-sector operations -/

/-- Settles O22: each of the three is issued with no latch written, and its first line is the refusal. -/
theorem writeOperationsRefuse : Obligations.WriteOperationsRefuse := by
  intro s i n src len hs hi
  obtain rfl | rfl | rfl := hi
  · exact ⟨_, issue_of_ready_eq_issued hs _ _ _, rfl, step_issued hs _ .writepInit _⟩
  · exact ⟨_, issue_of_ready_eq_issued hs _ _ _, rfl, step_issued hs _ .writepAppend _⟩
  · exact ⟨_, issue_of_ready_eq_issued hs _ _ _, rfl, step_issued hs _ .writepFinal _⟩

/-! ## READP's checks -/

/-- The state after HOST's issue of READP: the operands are latched (R170). -/
def readpIssued (sector : Word) (offset count : BitVec 10) (destEn : Bool) (dest : Word) (s : State) :
    State :=
  issued (.readp sector offset count destEn dest) .readp
    { s.latch with
      sector := sector, offset := offset, count := count, destEn := destEn, dest := dest } s

/-- The scaled address, with the byte address as a number modulo 2^32 (R171). -/
theorem scaledAddress_eq (ct : BitVec 4) (sector : Word) :
    scaledAddress ct sector =
      if ct.getLsbD 3 then sector else BitVec.ofNat 32 (sector.toNat * 512) := by
  have hmul : sector * 512#32 = BitVec.ofNat 32 (sector.toNat * 512) :=
    BitVec.eq_of_toNat_eq (by rw [BitVec.toNat_mul, BitVec.toNat_ofNat, BitVec.toNat_ofNat])
  rw [scaledAddress, hmul, ctIsBlock]

/-- READP's first step where no fault is set: one of the two faults, or the call of CMD17. -/
theorem stepReadpStart_eq {s : State} (hf : s.fault = []) :
    stepReadpStart s =
      if s.ct = ctNone then { s with fault := [.readBeforeInit] }
      else if rangeTooLong s.latch then { s with fault := [.readRange] }
      else goto (.send (frameCmd17 s.cfg (scaledAddress s.ct s.latch.sector)) .readBlock) s := by
  rw [stepReadpStart, raise_of_no_fault _ hf, raise_of_no_fault _ hf]

/-- Settles O38: the issue latches the operands, and READP's first line is the two checks and the call. -/
theorem readpChecksThenCalls : Obligations.ReadpChecksThenCalls := by
  intro s sector dest offset count destEn hs
  have hstart := stepReadpStart_eq (s := readpIssued sector offset count destEn dest s) hs.1.1
  refine ⟨_, issue_of_ready_eq_issued hs _ _ _, rfl, rfl, ?_⟩
  rw [← scaledAddress_eq]
  exact (step_issued hs _ .readp _).trans
    (congrArg (fun t => Host.Outcome.next (afterTurns 1 t)) hstart)

end Sys2Proof.Machine
end

section
/-! SUPPORT. READP's receives after the token (41_block_read.md R175): what they leave in destination memory, and the run of
all 514. -/

namespace Sys2Proof.Machine

/-! ## Destination memory after receives -/

/-- Destination memory after receive `i` answered by a byte (R175). -/
def copiedOne (l : Latches) (i : Nat) (b : Byte) (m : Memory) : Memory :=
  if copiesByte l i then m.write (copyAddress l i) b else m

/-- Destination memory after receives in a row, from receive `i` on, answered by some bytes. -/
def copied (l : Latches) : Nat → List Byte → Memory → Memory
  | _, [], m => m
  | i, b :: bs, m => copied l (i + 1) bs (copiedOne l i b m)

section
variable {l : Latches} {bs : List Byte} {m : Memory}

theorem copiedOne_read_of_ne {i a : Nat} {b : Byte} (h : copiesByte l i → copyAddress l i ≠ a) :
    (copiedOne l i b m).read a = m.read a := by
  unfold copiedOne
  split_ifs with hcopy
  · rw [Memory.read_write, if_neg (h hcopy)]
  · rfl

/-- An address no receive from `i` on copies to reads as before. -/
theorem copied_read_of_ne {i a : Nat} (h : ∀ j, i ≤ j → copiesByte l j → copyAddress l j ≠ a) :
    (copied l i bs m).read a = m.read a := by
  induction bs generalizing i m with
  | nil => rfl
  | cons b bs ih =>
    rw [copied, ih fun j hj => h j (Nat.le_of_succ_le hj), copiedOne_read_of_ne (h i le_rfl)]

/-- No two receives copy to one address: the count is below 2^32. -/
theorem copyAddress_injective {i j : Nat} (hi : copiesByte l i) (hj : copiesByte l j)
    (h : copyAddress l i = copyAddress l j) : i = j := by
  obtain ⟨-, hi, hi'⟩ := hi
  obtain ⟨-, hj, hj'⟩ := hj
  have hcount := l.count.isLt
  have hoff : BitVec.ofNat 32 (i - l.offset.toNat) = BitVec.ofNat 32 (j - l.offset.toNat) :=
    add_left_cancel (BitVec.eq_of_toNat_eq h)
  have hmod := congrArg BitVec.toNat hoff
  rw [BitVec.toNat_ofNat, BitVec.toNat_ofNat] at hmod
  omega

/-- A receive's address holds the byte received. -/
theorem copied_read_of_copiesByte {i j : Nat} (hj : copiesByte l j) (hlo : i ≤ j)
    (hhi : j < i + bs.length) : (copied l i bs m).read (copyAddress l j) = bs[j - i]? := by
  induction bs generalizing i m with
  | nil => exact absurd hhi (by simpa using hlo)
  | cons b bs ih =>
    rw [copied]
    obtain rfl | hlt := hlo.eq_or_lt
    · have hlater : ∀ j, i + 1 ≤ j → copiesByte l j → copyAddress l j ≠ copyAddress l i :=
        fun j hlt hcopy h => Nat.ne_of_gt hlt (copyAddress_injective hcopy hj h)
      rw [copied_read_of_ne hlater, copiedOne, if_pos hj, Memory.read_write, if_pos rfl,
        Nat.sub_self, List.getElem?_cons_zero]
    · have hsub : j - i = (j - (i + 1)) + 1 := by omega
      rw [ih hlt (by rw [List.length_cons] at hhi; omega), hsub, List.getElem?_cons_succ]

end

/-! ### The destination, byte by byte -/

section
variable {l : Latches}

theorem copiesByte_offset_add {j : Nat} (hen : l.destEn = true) (hj : j < l.count.toNat) :
    copiesByte l (l.offset.toNat + j) :=
  ⟨hen, by omega, by omega⟩

theorem copyAddress_offset_add (l : Latches) (j : Nat) :
    copyAddress l (l.offset.toNat + j) = (l.dest + BitVec.ofNat 32 j).toNat := by
  rw [copyAddress, destAddress, Nat.add_sub_cancel_left]

/-- Every receive READP copies is at the offset plus a number below the count. -/
theorem exists_of_copiesByte {i : Nat} (h : copiesByte l i) :
    l.destEn = true ∧ ∃ j, j < l.count.toNat ∧ i = l.offset.toNat + j := by
  obtain ⟨hen, hlo, hhi⟩ := h
  exact ⟨hen, i - l.offset.toNat, by omega, by omega⟩

/-- `DestOK` at every byte READP copies (20_memory.md R62). -/
def DestAllowed (p : Params) (l : Latches) : Prop :=
  l.destEn = true → ∀ j, j < l.count.toNat → destOk p (l.dest + BitVec.ofNat 32 j).toNat = true

theorem DestAllowed.not_stuck {s : State} (h : DestAllowed s.cfg s.latch) (i : Nat) :
    payloadStuck i s = false := by
  by_cases hcopy : copiesByte s.latch i
  · obtain ⟨hen, j, hj, rfl⟩ := exists_of_copiesByte hcopy
    rw [payloadStuck, copyAddress_offset_add, h hen j hj, Bool.not_true, Bool.and_false]
  · rw [payloadStuck, decide_eq_false hcopy, Bool.false_and]

/-- Copied byte `j` is received byte `offset + j`. -/
theorem copied_read_dest {bs : List Byte} {j : Nat} (m : Memory) (hen : l.destEn = true)
    (hj : j < l.count.toNat) (hfits : l.offset.toNat + l.count.toNat ≤ bs.length) :
    (copied l 0 bs m).read (l.dest + BitVec.ofNat 32 j).toNat = bs[l.offset.toNat + j]? := by
  rw [← copyAddress_offset_add, copied_read_of_copiesByte (copiesByte_offset_add hen hj)
    (Nat.zero_le _) (by omega), Nat.sub_zero]

/-- Every byte outside the destination keeps its value. -/
theorem copied_read_elsewhere {a : Nat} (bs : List Byte) (m : Memory)
    (h : l.destEn = false ∨
      ∀ j, j < l.count.toNat → a ≠ (l.dest + BitVec.ofNat 32 j).toNat) :
    (copied l 0 bs m).read a = m.read a := by
  refine copied_read_of_ne fun i _ hi => ?_
  obtain ⟨hen, j, hj, rfl⟩ := exists_of_copiesByte hi
  rw [copyAddress_offset_add]
  obtain hdis | hne := h
  · exact absurd hdis (by simp [hen])
  · exact (hne j hj).symm

end

/-! ## The 514 receives -/

/-- CTL goes on to a point with destination memory as given. -/
def storing (k : Kont) (m : Memory) (s : State) : State := { s with k := k, mem := m }

theorem exchanges_storing (outs : List Byte) (k : Kont) (m : Memory) (s : State) :
    exchanges outs (storing k m s) = storing k m (exchanges outs s) := by
  induction outs generalizing s with
  | nil => rfl
  | cons o outs ih => exact ih (xchg o s)

theorem answers_storing (outs : List Byte) (k : Kont) (m : Memory) (s : State) :
    answers outs (storing k m s) = answers outs s := by
  induction outs generalizing s with
  | nil => rfl
  | cons o outs ih => exact congrArg (cardByte o s :: ·) (ih (xchg o s))

/-- Receives in a row are a stretch of the conversation. -/
theorem storing_exchanges_replicate (k : Kont) (m : Memory) (n : Nat) (s : State) :
    storing k m (exchanges (List.replicate n filler) s) =
      storing k m (talked k s.sdCs
        ((answers (List.replicate n filler) s).map (Event.busX s.sdCs filler))
        (s.env.card.drop n) s) := by
  rw [← goto_exchanges_replicate]
  rfl

theorem stepPayload_eq (i : Nat) (s : State) :
    stepPayload i s =
      storing (afterPayload i) (copiedOne s.latch i (cardByte filler s) s.mem)
        (xchg filler s) := by
  unfold stepPayload copiedOne
  split_ifs <;> rfl

/-- From a receive to the last of the 514, and to the release with OK in its step (R175, log 6). -/
theorem leads_of_payload {s : State} {i n : Nat} (hs : CtlAlone s) (hk : s.k = .payload i)
    (hn : n ≠ 0) (hall : i + n = 514) (hdest : DestAllowed s.cfg s.latch) :
    Leads n s
      (storing (readEnd resOk) (copied s.latch i (answers (List.replicate n filler) s) s.mem)
        (exchanges (List.replicate n filler) s)) := by
  induction n generalizing s i with
  | zero => exact absurd rfl hn
  | succ n ih =>
    have hstep {u : State} (h : Leads n (stepPayload i s) u) : Leads (n + 1) s u := by
      refine h.cons hs ?_ (.of_not_send (by simp [hk])) (by simp only [ctlMove, ctlStep, hk])
      simp only [ctlHasStep, hk, hdest.not_stuck, Bool.not_false]
    refine hstep ?_
    rw [stepPayload_eq]
    obtain rfl | hmore := eq_or_ne n 0
    · obtain rfl : i = 513 := Nat.succ.inj hall
      exact Leads.refl _
    · have hgoes : afterPayload i = .payload (i + 1) :=
        if_pos (by rw [Config.sectorBytes]; omega)
      rw [hgoes]
      have h := ih
        (s := storing (.payload (i + 1)) (copiedOne s.latch i (cardByte filler s) s.mem)
          (xchg filler s)) hs rfl hmore (by omega) hdest
      rwa [answers_storing, exchanges_storing] at h

/-- All 514 receives, by their answers. -/
theorem leads_of_payload_answers {s : State} {bs : List Byte} (hs : CtlAlone s)
    (hk : s.k = .payload 0) (hdest : DestAllowed s.cfg s.latch)
    (hbs : answers (List.replicate 514 filler) s = bs) :
    Leads 514 s
      (storing (readEnd resOk) (copied s.latch 0 bs s.mem)
        (talked (readEnd resOk) s.sdCs (bs.map (Event.busX s.sdCs filler)) (s.env.card.drop 514)
          s)) := by
  have hl := leads_of_payload hs hk (by decide) (Nat.zero_add _) hdest
  rwa [storing_exchanges_replicate, hbs] at hl

/-- All 514 receives, answered from the script. -/
theorem leads_of_payload_script {s : State} {payload rest : List Byte} (hs : CtlAlone s)
    (hk : s.k = .payload 0) (hdest : DestAllowed s.cfg s.latch)
    (hcard : s.env.card = payload ++ rest) (hlen : payload.length = 514) :
    Leads 514 s
      (storing (readEnd resOk) (copied s.latch 0 payload s.mem)
        (talked (readEnd resOk) s.sdCs (payload.map (Event.busX s.sdCs filler)) rest s)) := by
  have hans := answers_of_script hcard (hlen.trans (List.length_replicate (a := filler)).symm)
  have hl := leads_of_payload_answers hs hk hdest hans
  rwa [hcard, List.drop_left' hlen] at hl

/-- Settles O39: the bytes are whatever the card answers to the 514 receives. -/
theorem payloadMakes514Receives : Obligations.PayloadMakes514Receives := by
  intro s hs hk hrange hdest
  obtain ⟨bs, hbs⟩ : ∃ bs, answers (List.replicate 514 filler) s = bs := ⟨_, rfl⟩
  have hlen : bs.length = 514 := by rw [← hbs, answers_length, List.length_replicate]
  exact ⟨_, bs, (leads_of_payload_answers hs hk hdest hbs).runs, hlen, rfl,
    fun hen j hj => copied_read_dest _ hen hj (hlen ▸ by omega),
    fun a ha => copied_read_elsewhere _ _ ha⟩

end Sys2Proof.Machine
end

section
/-! SUPPORT. READP from its issue to its return (41_block_read.md R172 to R178): the token poll, what the pseudocode makes of
the answers after SendCmd, and CTL's run of it. -/

namespace Sys2Proof.Machine

/-! ## The token poll -/

/-- With no receive left the poll's last byte decides (R174). -/
theorem afterToken_zero (rc : Byte) :
    afterToken 0 rc = if rc = dataToken then .payload 0 else readEnd (tokenFailure rc) :=
  if_neg fun h => h.2 rfl

/-- Any byte but 0xFF decides at once (R174). -/
theorem afterToken_of_ended {left : Nat} {rc : Byte} (h : rc ≠ noTokenYet ∨ left = 0) :
    afterToken left rc = afterToken 0 rc := by
  obtain hrc | rfl := h
  · rw [afterToken_zero]
    exact if_neg fun hgo => hrc hgo.1
  · rfl

/-- The poll receives what `refToken` reads, and its last receive's step decides on the byte (R174, log 6). -/
theorem leads_of_token {s : State} {left : Nat} {rc : Byte} {ans rest : List Byte} (hs : CtlAlone s)
    (hk : s.k = .token left) (hcard : s.env.card = ans) (h : refToken left ans = some (rc, rest)) :
    ∃ polled, ans = polled ++ rest ∧ Leads polled.length s
      (goto (afterToken 0 rc) (exchanges (List.replicate polled.length filler) s)) := by
  induction ans generalizing s left with
  | nil => cases h
  | cons a ans ih =>
    have hrx : rxByte s = a := by simp [rxByte, cardByte, hcard]
    have hmove : ctlMove s = goto (afterToken (left - 1) a) (xchg filler s) := by
      rw [← hrx]
      simp only [ctlMove, ctlStep, hk]
      rfl
    have hstep {n : Nat} {u : State}
        (ht : Leads n (goto (afterToken (left - 1) a) (xchg filler s)) u) : Leads (n + 1) s u :=
      ht.cons hs (by simp only [ctlHasStep, hk]) (.of_not_send (by simp [hk])) hmove
    unfold refToken at h
    split_ifs at h with hend
    · cases h
      rw [afterToken_of_ended (hend.imp_right Nat.sub_eq_zero_of_le)] at hstep
      exact ⟨[rc], rfl, hstep (Leads.refl _)⟩
    · have hgoes : afterToken (left - 1) a = .token (left - 1) :=
        if_pos ⟨not_not.1 fun hc => hend (.inl hc),
          fun hc => hend (.inr (Nat.le_of_sub_eq_zero hc))⟩
      rw [hgoes] at hstep
      obtain ⟨polled, rfl, hl⟩ :=
        ih (s := goto (.token (left - 1)) (xchg filler s)) (left := left - 1) hs rfl
          (by simp [hcard]) h
      rw [exchanges_goto] at hl
      exact ⟨a :: polled, rfl, hstep hl⟩

/-! ## What the pseudocode makes of the answers after SendCmd -/

/-- `BlockRead p r ans code payload rest`: after SendCmd returned the R1 `r`, READP's pseudocode comes to its release with
the result code and the payload, having taken `ans` down to `rest` (R172 to R176). -/
inductive BlockRead (p : Params) (r : Byte) (ans : List Byte) :
    Byte → List Byte → List Byte → Prop where
  /-- CMD17 was not accepted. -/
  | rejected (h : ¬r1Ready r) : BlockRead p r ans (cmd17Failure r) [] ans
  /-- The token poll ended without the token. -/
  | noToken {rc : Byte} {rest : List Byte} (h : r1Ready r)
    (htoken : refToken p.nToken ans = some (rc, rest)) (hrc : rc ≠ dataToken) :
    BlockRead p r ans (tokenFailure rc) [] rest
  /-- The token came, and 514 bytes after it. -/
  | block {payload rest : List Byte} (h : r1Ready r)
    (htoken : refToken p.nToken ans = some (dataToken, payload ++ rest))
    (hlen : payload.length = 514) : BlockRead p r ans resOk payload rest

/-- READP's pseudocode after its SendCmd is the block read and then the release's one answer (R172, R124). -/
theorem blockRead_of_refRead {p : Params} {ans afterSend payload rest : List Byte} {r code : Byte}
    (hsend : refSend p ans = some (r, afterSend)) (h : refRead p ans = some (code, payload, rest)) :
    ∃ b, BlockRead p r afterSend code payload (b :: rest) := by
  obtain ⟨⟨code', payload', left⟩, hblock, hrelease⟩ := Option.bind_eq_some_iff.1 h
  obtain ⟨_, hskip, he⟩ := Option.map_eq_some_iff.1 hrelease
  cases he
  obtain ⟨hone, hrest⟩ := refSkip_eq_some.1 hskip
  obtain ⟨b, more, rfl⟩ := List.exists_cons_of_length_pos hone
  obtain rfl : more = rest := hrest
  refine ⟨b, ?_⟩
  simp only [hsend, Option.bind_some] at hblock
  split_ifs at hblock with hr
  · obtain ⟨⟨rc, mid⟩, htoken, hend⟩ := Option.bind_eq_some_iff.1 hblock
    dsimp only at hend
    split_ifs at hend with hrc
    · obtain ⟨_, hskip, he⟩ := Option.map_eq_some_iff.1 hend
      cases he
      obtain ⟨hlen, hdrop⟩ := refSkip_eq_some.1 hskip
      subst hrc
      have hmid : mid.take 514 ++ b :: more = mid := hdrop ▸ List.take_append_drop 514 mid
      exact .block hr (hmid.symm ▸ htoken) (by simpa using hlen)
    · cases hend
      exact .noToken hr htoken hrc
  · cases hblock
    exact .rejected hr

theorem cmd17Failure_ne_ok (r : Byte) : cmd17Failure r ≠ resOk := by
  unfold cmd17Failure
  split_ifs <;> decide

theorem tokenFailure_ne_ok (rc : Byte) : tokenFailure rc ≠ resOk := by
  unfold tokenFailure
  split_ifs <;> decide

section
variable {p : Params} {r code : Byte} {ans payload rest : List Byte}
  (h : BlockRead p r ans code payload rest)
include h

/-- OK comes with a whole block. -/
theorem BlockRead.length_of_ok (hok : code = resOk) : payload.length = 514 := by
  cases h with
  | rejected => exact absurd hok (cmd17Failure_ne_ok r)
  | noToken => exact absurd hok (tokenFailure_ne_ok _)
  | block _ _ hlen => exact hlen

/-- A failure comes with no payload. -/
theorem BlockRead.payload_of_failure (hfail : code ≠ resOk) : payload = [] := by
  cases h with
  | rejected | noToken => rfl
  | block => exact absurd rfl hfail

end

/-! ## CTL's run of it -/

/-- From the return of CMD17's R1 to the release: CTL receives what the block read takes and copies its payload
(R172 to R177). -/
theorem leads_of_blockRead {s : State} {r code : Byte} {payload rest : List Byte} (hs : CtlAlone s)
    (hcs : s.sdCs = .asserted) (hk : s.k = afterReadBlock s.cfg r)
    (hdest : DestAllowed s.cfg s.latch) (h : BlockRead s.cfg r s.env.card code payload rest) :
    ∃ got n, s.env.card = got ++ rest ∧ Leads n s
      (storing (readEnd code) (copied s.latch 0 payload s.mem)
        (talked (readEnd code) .asserted (receiveEvents got) rest s)) := by
  have htoken {rc : Byte} {mid : List Byte} (hr : r1Ready r)
      (h : refToken s.cfg.nToken s.env.card = some (rc, mid)) :
      ∃ polled, s.env.card = polled ++ mid ∧ Leads polled.length s
        (talked (afterToken 0 rc) .asserted (receiveEvents polled) mid s) := by
    obtain ⟨polled, hpolled, hl⟩ := leads_of_token hs (hk.trans (if_pos hr)) rfl h
    rw [goto_exchanges_replicate_of_script _ _ hpolled, hcs] at hl
    exact ⟨polled, hpolled, hl⟩
  cases h with
  | rejected hr =>
    have hstay := talked_self hcs (hk.trans (if_neg hr))
    exact ⟨[], 0, rfl, (congrArg (Leads 0 s) hstay).mpr (Leads.refl s)⟩
  | noToken hr h hrc =>
    obtain ⟨polled, hpolled, hl⟩ := htoken hr h
    rw [afterToken_zero, if_neg hrc] at hl
    exact ⟨polled, _, hpolled, hl⟩
  | block hr h hlen =>
    obtain ⟨polled, hpolled, hl⟩ := htoken hr h
    rw [afterToken_zero, if_pos rfl] at hl
    have hpayload := leads_of_payload_script
      (s := talked (.payload 0) .asserted (receiveEvents polled) (payload ++ rest) s) hs rfl hdest
      rfl hlen
    have hevents : receiveEvents (polled ++ payload) =
      receiveEvents polled ++ receiveEvents payload := List.map_append
    refine ⟨polled ++ payload, polled.length + 514, by rw [hpolled, List.append_assoc], ?_⟩
    rw [hevents, ← talked_talked (.payload 0) _ .asserted _ _ _ (payload ++ rest)]
    exact hl.trans hpayload

/-- The release and the return, of INIT and of READP: two steps (40_framer_and_init.md R124). -/
theorem leads_of_release {s : State} {e : EndOf} (hs : CtlAlone s) (hk : s.k = .releaseDesel e) :
    Leads 2 s (stepOperationEnd e (goto (.releaseDummy e) (csDeassert s))) := by
  have hdummy : Leads 1 (goto (.releaseDummy e) (csDeassert s)) _ :=
    (Leads.refl _).cons hs rfl (.of_not_send nofun) rfl
  exact hdummy.cons hs (by simp only [ctlHasStep, hk]) (.of_not_send (by simp [hk]))
    (by simp only [ctlMove, ctlStep, hk]; rfl)

/-- From READP's first line to the return of CMD17's R1 (R170 to R173). -/
theorem leads_to_readBlock {s : State} {r : Byte} {rest : List Byte} (hs : CtlAlone s)
    (hk : s.k = .start .readp) (hct : s.ct ≠ ctNone) (hfits : ¬rangeTooLong s.latch)
    (h : refSend s.cfg s.env.card = some (r, rest)) :
    ∃ n, Leads n s
      (talked (afterReadBlock s.cfg r) .asserted
        (sendEvents (frameCmd17 s.cfg (scaledAddress s.ct s.latch.sector)) (used s.env.card rest))
        rest s) := by
  have hp : (Instr.cmd17 (scaledAddress s.ct s.latch.sector) s.cfg.crcPlaceholder).port =
    .sdcmd48 := rfl
  have hsend := leads_of_refSend .readBlock hs (encode_length_of_sdcmd48 hp) h
  have hcall : Leads _ (goto (.send _ .readBlock) s) _ :=
    hsend.cons hs rfl (.of_encode hp _) rfl
  refine ⟨_, hcall.cons hs (by simp only [ctlHasStep, hk]) (.of_not_send (by simp [hk])) ?_⟩
  simp only [ctlMove, ctlStep, hk, stepStart]
  rw [stepReadpStart, if_neg hct, if_neg hfits]
  rfl

/-- The state after READP's release and return, with destination memory as given (R124, R176). -/
def readpEnded (code : Byte) (m : Memory) (events : List Event) (b : Byte) (rest : List Byte)
    (s : State) : State :=
  { s with
    sdCs := .deasserted, busy := false, op := none, k := .idle, result := code, mem := m
    hist := s.hist ++ (events ++ [.csDeassert, .busX .deasserted filler b, .done s.op code])
    env := { s.env with card := rest } }

/-- READP's release and return, where a destination memory and a conversation stand (R124, R176). -/
theorem leads_of_readEnd {s : State} (code : Byte) (m : Memory) (cs : Cs) (events : List Event)
    (b : Byte) (rest : List Byte) (hs : CtlAlone s) :
    Leads 2 (storing (readEnd code) m (talked (readEnd code) cs events (b :: rest) s))
      (readpEnded code m events b rest s) := by
  have hl := leads_of_release
    (s := storing (readEnd code) m (talked (readEnd code) cs events (b :: rest) s)) hs rfl
  have hend : stepOperationEnd (.readp code) (goto (.releaseDummy (.readp code)) (csDeassert
      (storing (readEnd code) m (talked (readEnd code) cs events (b :: rest) s)))) =
      readpEnded code m events b rest s := by
    simp [stepOperationEnd, stepReleaseDummy, finish, xchg, cardByte, goto, csDeassert, storing,
      talked, readpEnded]
  rwa [hend] at hl

/-- READP from its first line to its end, for a script on which its SendCmd and its block read end (R172). -/
theorem leads_of_readp {s : State} {r code b : Byte} {afterSend payload rest : List Byte}
    (hs : CtlAlone s) (hk : s.k = .start .readp) (hct : s.ct ≠ ctNone)
    (hfits : ¬rangeTooLong s.latch) (hdest : DestAllowed s.cfg s.latch)
    (hsend : refSend s.cfg s.env.card = some (r, afterSend))
    (hblock : BlockRead s.cfg r afterSend code payload (b :: rest)) :
    ∃ got n, afterSend = got ++ b :: rest ∧ Leads n s
      (readpEnded code (copied s.latch 0 payload s.mem)
        (sendEvents (frameCmd17 s.cfg (scaledAddress s.ct s.latch.sector))
          (used s.env.card afterSend) ++ receiveEvents got) b rest s) := by
  obtain ⟨m, hm⟩ := leads_to_readBlock hs hk hct hfits hsend
  have hread (events : List Event) := leads_of_blockRead
    (s := talked (afterReadBlock s.cfg r) .asserted events afterSend s) hs rfl rfl hdest hblock
  obtain ⟨got, n, hgot, hn⟩ := hread _
  rw [talked_talked] at hn
  exact ⟨got, _, hgot, (hm.trans hn).trans (leads_of_readEnd _ _ _ _ b rest hs)⟩

/-- Settles O40: the issue and SendCmd, the block read, then the release. -/
theorem readpRunsItsPseudocode : Obligations.ReadpRunsItsPseudocode := by
  intro s sector dest offset count destEn r code afterSend payload rest hs hct hrange hdest hsend hread
  obtain ⟨b, hblock⟩ := blockRead_of_refRead hsend hread
  have halone : CtlAlone (readpIssued sector offset count destEn dest s) :=
    ctlAlone_issued hs _ _ _
  obtain ⟨got, n, rfl, hn⟩ := leads_of_readp halone rfl hct (Nat.not_lt.2 hrange) hdest hsend hblock
  have hreceived : (got ++ b :: rest).length - rest.length - 1 = got.length := by
    rw [List.length_append, List.length_cons]
    omega
  refine ⟨_, n, _, issue_of_ready_eq_issued hs _ _ _, hn.runs, ?_, fun hok hen j hj => ?_,
    fun a ha => ?_⟩
  · obtain ⟨-, hbusy, hidle, -⟩ := hs
    simp only [hreceived, List.take_left, List.drop_left]
    simp [readpEnded, hbusy, hidle, readpIssued, issued, filler]
  · have hlen := hblock.length_of_ok hok
    have hfits : offset.toNat + count.toNat ≤ payload.length := by omega
    exact copied_read_dest (l := (readpIssued sector offset count destEn dest s).latch) _ hen hj hfits
  · obtain hfail | hother := ha
    · exact congrArg (fun bs => (copied _ 0 bs s.mem).read a) (hblock.payload_of_failure hfail)
    · exact copied_read_elsewhere (l := (readpIssued sector offset count destEn dest s).latch) _ _
        hother

end Sys2Proof.Machine
end

section
/-! SUPPORT. LOADFMT, PLAY's entry and its priming (42_fifo_refill.md R200 to R211): the issue, and CTL's steps up to the
armed timer or to an early end. -/

namespace Sys2Proof.Machine

/-- A return from a state that differs from a ready one in some registers: `BUSY` and CTL's point are again what they
were there (60_exceptions.md R300). -/
theorem finish_of_ready {s u : State} (code : Byte) (hs : Ready s)
    (hu : u = { s with
                busy := u.busy, op := u.op, k := u.k, latch := u.latch, fmt := u.fmt
                fifo := u.fifo, hist := u.hist, env := u.env }) :
    finish code u =
      { s with
        result := code, op := none, latch := u.latch, fmt := u.fmt, fifo := u.fifo
        hist := u.hist ++ [.done u.op code], env := u.env } := by
  obtain ⟨-, hbusy, hidle, -⟩ := hs
  rw [hu, hbusy, hidle]
  rfl

/-- The step after an issue, once what the operation's first line makes of the state is known. -/
theorem step_issued_of_eq {s u : State} {i : Instr} {op : HostOp} {l : Latches} (hs : Ready s)
    (hu : stepStart op (issued i op l s) = u) : step (issued i op l s) = .next (afterTurns 1 u) :=
  hu ▸ step_issued hs i op l

/-! ## LOADFMT -/

/-- LOADFMT's step: its two refusals as one, or the format and OK (R200, R201). -/
theorem stepLoadfmt_eq (s : State) :
    stepLoadfmt s =
      if widthRefused s.latch.bps ∨ rateRefused s.latch.bps s.latch.rate then
        refuse .formatUnmodelled s
      else
        finish resOk
          { s with
            fmt :=
              { bps := s.latch.bps, rate := s.latch.rate, size := s.latch.size, valid := true } } := by
  unfold stepLoadfmt
  by_cases hw : widthRefused s.latch.bps
  · rw [if_pos hw, if_pos (.inl hw)]
  · simp only [hw, false_or, if_false]

/-- Settles O23: the issue latches the operands, and LOADFMT's one step is the refusals or the format. -/
theorem loadfmtLoadsOrRefuses : Obligations.LoadfmtLoadsOrRefuses := by
  intro s bps rate size hs
  refine ⟨_, issue_of_ready_eq_issued hs _ _ _, rfl, step_issued_of_eq hs ?_⟩
  refine (stepLoadfmt_eq _).trans (if_congr Iff.rfl rfl ?_)
  exact finish_of_ready resOk hs rfl

/-! ## PLAY's entry -/

/-- Settles O24: PLAY's first line returns without a format, and with one clears `FMT_VALID` and goes to priming. -/
theorem playEntry : Obligations.PlayEntry := by
  intro s hs
  refine ⟨_, issue_of_ready_eq_issued hs _ _ _, rfl, step_issued_of_eq hs ?_⟩
  exact if_congr Iff.rfl rfl (finish_of_ready resCallerMisuse hs rfl)

/-! ## PLAY's steps while the timer is not armed -/

theorem not_send_of_play {s : State} (hplay : kontOp s.k = some .play) (frame : List Byte) (ret : Ret) :
    s.k ≠ .send frame ret := by
  intro hk
  rw [hk] at hplay
  exact kontOp_ne_play_of_call rfl hplay

/-- CTL has a step at every point of PLAY: there is no destination byte to be stuck at (60_exceptions.md R291). -/
theorem ctlHasStep_of_play {s : State} (hplay : kontOp s.k = some .play) : ctlHasStep s = true := by
  unfold ctlHasStep
  cases hk : s.k with
  | idle | payload =>
    rw [hk] at hplay
    cases hplay
  | _ => rfl

theorem leads_of_play {s t : State} (hs : CtlAlone s) (hplay : kontOp s.k = some .play)
    (ht : ctlStep s = t) : Leads 1 s t := by
  have hsend := not_send_of_play hplay
  rw [← ht, ← ctlMove_of_not_send hsend]
  exact (CtlMoves.mk hs (ctlHasStep_of_play hplay) (.of_not_send hsend)).leads

/-! ### What FILE's script answers (20_memory.md R66) -/

theorem clipAnswer_count {n : Nat} {bytes : List Byte} (h : bytes.length ≤ n) :
    clipAnswer n (.count bytes) = .count bytes := by
  rw [clipAnswer, List.take_of_length_le h]

/-- The script's next answer, where the port admits it. -/
theorem fileAnswer_of_script {s : State} {n : Nat} {ans : FileAnswer} {more : List FileAnswer} (k : BufId)
    (hfile : s.env.file = ans :: more) (hclip : clipAnswer n ans = ans) : fileAnswer k n s = ans := by
  rw [fileAnswer, hfile, List.headD_cons, hclip]

/-! ### The states of priming -/

/-- A state of priming (R210): PLAY has been issued and has consumed the format, FILE has answered `reads`, and its
script goes on with `more`. -/
def priming (k : Kont) (f : Fifo) (reads : List Event) (more : List FileAnswer) (s : State) : State :=
  { s with
    busy := true, op := some .play, k := k, fmt := { s.fmt with valid := false }, fifo := f
    hist := s.hist ++ .issue 0x07#8 [] :: reads, env := { s.env with file := more } }

/-- The state after a return from priming: the block is as idle as it was before the issue. -/
def playEnded (code : Byte) (f : Fifo) (reads : List Event) (more : List FileAnswer) (s : State) :
    State :=
  { s with
    result := code, op := none, fmt := { s.fmt with valid := false }, fifo := f
    hist := s.hist ++ .issue 0x07#8 [] :: (reads ++ [.done (some .play) code])
    env := { s.env with file := more } }

/-- The FIFO after a priming read of some bytes. -/
def primed (k : BufId) (bytes : List Byte) (f : Fifo) : Fifo :=
  (f.setBuf k (fillBuffer (f.buf k) (.count bytes))).setLen k bytes.length

@[simp] theorem primed_buf (k : BufId) (bytes : List Byte) (f : Fifo) :
    (primed k bytes f).buf k = fillBuffer (f.buf k) (.count bytes) := by
  simp [primed, Fifo.buf_setBuf]

section
variable {s : State} {f : Fifo} {reads : List Event} {more : List FileAnswer} {a b : List Byte}

theorem finish_priming (hs : Ready s) (k : Kont) (code : Byte) :
    finish code (priming k f reads more s) = playEnded code f reads more s := by
  refine (finish_of_ready code hs rfl).trans ?_
  simp [priming, playEnded]

/-- The point at which a buffer is primed. -/
def primingPoint : BufId → Kont
  | .bufA => .primeA
  | .bufB => .primeB

@[simp] theorem priming_cfg (k : Kont) : (priming k f reads more s).cfg = s.cfg := rfl

theorem fileAnswer_priming {ans : FileAnswer} (k : Kont) (j : BufId)
    (hclip : clipAnswer s.cfg.bufSize ans = ans) :
    fileAnswer j s.cfg.bufSize (priming k f reads (ans :: more) s) = ans :=
  fileAnswer_of_script j rfl hclip

theorem fileRead_priming {ans : FileAnswer} (k : Kont) (j : BufId)
    (hclip : clipAnswer s.cfg.bufSize ans = ans) :
    fileRead j s.cfg.bufSize (priming k f reads (ans :: more) s) =
      priming k (f.setBuf j (fillBuffer (f.buf j) ans))
        (reads ++ [.fileRead j s.cfg.bufSize ans]) more s := by
  rw [fileRead, fileAnswer_priming k j hclip]
  simp [priming]

/-- A priming read of A that got some bytes goes on to B (R210). -/
theorem ctlStep_primeA_of_count (hne : a ≠ []) (hlen : a.length ≤ s.cfg.bufSize) :
    ctlStep (priming .primeA f reads (.count a :: more) s) =
      priming .primeB (primed .bufA a f)
        (reads ++ [.fileRead .bufA s.cfg.bufSize (.count a)]) more s := by
  have hclip := clipAnswer_count hlen
  have hne' : a.length ≠ 0 := by simpa using hne
  simp only [ctlStep, stepPrimeA, priming_cfg, fileAnswer_priming _ _ hclip,
    fileRead_priming _ _ hclip, if_neg hne']
  rfl

/-- A priming read of A that got no byte returns (R211). -/
theorem ctlStep_primeA_of_none :
    ctlStep (priming .primeA f reads (.count [] :: more) s) =
      finish resStreamEnd (priming .primeA { f with lenA := 0 }
        (reads ++ [.fileRead .bufA s.cfg.bufSize (.count [])]) more s) := by
  have hclip : clipAnswer s.cfg.bufSize (.count []) = .count [] := clipAnswer_count (Nat.zero_le _)
  simp only [ctlStep, stepPrimeA, priming_cfg, fileAnswer_priming _ _ hclip,
    fileRead_priming _ _ hclip]
  rfl

/-- A priming read of B, of no byte too, goes on (R210, R211). -/
theorem ctlStep_primeB_of_count (hlen : b.length ≤ s.cfg.bufSize) :
    ctlStep (priming .primeB f reads (.count b :: more) s) =
      priming .primeSet (primed .bufB b f)
        (reads ++ [.fileRead .bufB s.cfg.bufSize (.count b)]) more s := by
  have hclip := clipAnswer_count hlen
  simp only [ctlStep, stepPrimeB, priming_cfg, fileAnswer_priming _ _ hclip,
    fileRead_priming _ _ hclip]
  rfl

/-- A priming read's error returns (R211). -/
theorem ctlStep_priming_of_error (j : BufId) (e : DiskError) :
    ctlStep (priming (primingPoint j) f reads (.error e :: more) s) =
      finish (diskErrorCode e) (priming (primingPoint j) (f.setBuf j [])
        (reads ++ [.fileRead j s.cfg.bufSize (.error e)]) more s) := by
  have hclip : clipAnswer s.cfg.bufSize (.error e) = .error e := rfl
  cases j with
  | bufA =>
    simp only [ctlStep, primingPoint, stepPrimeA, priming_cfg, fileAnswer_priming _ _ hclip,
      fileRead_priming _ _ hclip]
    rfl
  | bufB =>
    simp only [ctlStep, primingPoint, stepPrimeB, priming_cfg, fileAnswer_priming _ _ hclip,
      fileRead_priming _ _ hclip]
    rfl

end

/-! ### PLAY's way through priming -/

section
variable {s : State} {a b : List Byte} {more : List FileAnswer} (hs : Ready s)
include hs

/-- One step of CTL from a point of priming. -/
theorem leads_of_priming {k : Kont} {f : Fifo} {reads : List Event} {t : State}
    (hplay : kontOp k = some .play) (ht : ctlStep (priming k f reads more s) = t) :
    Leads 1 (priming k f reads more s) t := by
  obtain ⟨hfault, -, -, hunarmed⟩ := hs
  exact leads_of_play ⟨hfault, rfl, hunarmed⟩ hplay ht

variable (hvalid : s.fmt.valid = true)
include hvalid

theorem leads_to_primeA (hfile : s.env.file = more) :
    Leads 1 (issued .play .play s.latch s) (priming .primeA s.fifo [] more s) := by
  subst hfile
  exact leads_of_play (ctlAlone_issued hs _ _ _) rfl (if_pos hvalid)

theorem leads_to_primeB (hfile : s.env.file = .count a :: more) (hne : a ≠ [])
    (hlen : a.length ≤ s.cfg.bufSize) :
    Leads 2 (issued .play .play s.latch s)
      (priming .primeB (primed .bufA a s.fifo) [.fileRead .bufA s.cfg.bufSize (.count a)] more s) :=
  (leads_to_primeA hs hvalid hfile).trans
    (leads_of_priming hs rfl (ctlStep_primeA_of_count hne hlen))

/-- With a count for each buffer, the first not 0, PLAY primes both, sets the cursor and arms the timer (R210). -/
theorem leads_to_loop (hfile : s.env.file = .count a :: .count b :: more) (hne : a ≠ [])
    (hlenA : a.length ≤ s.cfg.bufSize) (hlenB : b.length ≤ s.cfg.bufSize) :
    Leads 5 (issued .play .play s.latch s)
      (stepPrimeArm (stepPrimeSet (priming .primeSet (primed .bufB b (primed .bufA a s.fifo))
        [.fileRead .bufA s.cfg.bufSize (.count a), .fileRead .bufB s.cfg.bufSize (.count b)]
        more s))) := by
  have hread := (leads_to_primeB hs hvalid hfile hne hlenA).trans
    (leads_of_priming hs rfl (ctlStep_primeB_of_count hlenB))
  exact (hread.trans (leads_of_priming hs rfl rfl)).trans (leads_of_priming hs rfl rfl)

end

/-! ### The statements -/

/-- A count's bytes lie in the buffer from its base, over what it held. -/
theorem fillBuffer_count_read (m : Memory) (bytes : List Byte) (j : Nat) :
    (fillBuffer m (.count bytes)).read j = if j < bytes.length then bytes[j]? else m.read j := by
  simp [fillBuffer, Memory.read_writeFrom]

/-- Settles O25: five steps of CTL, and the two file reads say what is in the buffers. -/
theorem playPrimesAndArms : Obligations.PlayPrimesAndArms := by
  intro s a b more hs hvalid hfile hne hlenA hlenB
  refine ⟨_, _, issue_of_ready_eq_issued hs _ _ _,
    (leads_to_loop hs hvalid hfile hne hlenA hlenB).runs, ?_,
    fillBuffer_count_read s.fifo.bufA a, fillBuffer_count_read s.fifo.bufB b⟩
  simp [stepPrimeArm, stepPrimeSet, arm, goto, priming, primed, Fifo.setBuf, Fifo.setLen,
    statusReady]

/-- Settles O26: the read that ends PLAY is CTL's second step, or its third where A got some bytes. -/
theorem playPrimingEnds : Obligations.PlayPrimingEnds := by
  intro s a e more hs hvalid ended
  refine ⟨fun hfile => ?_, fun hfile => ?_, fun hfile hne hlen => ?_⟩
  · have hrun := (leads_to_primeA hs hvalid hfile).trans
      (leads_of_priming hs rfl (ctlStep_primeA_of_none.trans (finish_priming hs _ _)))
    exact ⟨_, issue_of_ready_eq_issued hs _ _ _, hrun.runs⟩
  · have hrun := (leads_to_primeA hs hvalid hfile).trans
      (leads_of_priming hs rfl ((ctlStep_priming_of_error .bufA e).trans (finish_priming hs _ _)))
    exact ⟨_, _, issue_of_ready_eq_issued hs _ _ _, hrun.runs⟩
  · have hrun := (leads_to_primeB hs hvalid hfile hne hlen).trans
      (leads_of_priming hs rfl ((ctlStep_priming_of_error .bufB e).trans (finish_priming hs _ _)))
    exact ⟨_, _, _, issue_of_ready_eq_issued hs _ _ _, hrun.runs⟩

end Sys2Proof.Machine
end

section
/-! SUPPORT. PLAY's loop (42_fifo_refill.md R214 to R220): CTL's step at each of its points. -/

namespace Sys2Proof.Machine

/-! ## CTL's step in PLAY -/

/-- When CTL moves at a point of PLAY, the step is CTL's own. -/
theorem step_of_play {s : State} (hs : NoFault s) (hm : mover s = some .ctl)
    (hplay : kontOp s.k = some .play) : step s = .next (ctlStep (takeTurn s)) :=
  (stepsThatFetchNothing s hs).2.1 hm (not_send_of_play hplay)

section
variable {s : State}

theorem ctlStep_of_loopPlayed (hk : s.k = .loopPlayed) : ctlStep s = stepLoopPlayed s := by
  simp only [ctlStep, hk]

theorem ctlStep_of_loopStatus (hk : s.k = .loopStatus) : ctlStep s = stepLoopStatus s := by
  simp only [ctlStep, hk]

theorem ctlStep_of_refillReady (hk : s.k = .refillReady) : ctlStep s = stepRefillReady s := by
  simp only [ctlStep, hk]

theorem ctlStep_of_playFail {e : DiskError} (hk : s.k = .playFail e) :
    ctlStep s = stepPlayFail e s := by
  simp only [ctlStep, hk]

/-- A refill's count: the target is filled and its live length set, as in priming (R214). -/
theorem ctlStep_of_refill_count {t : BufId} {bytes : List Byte} {more : List FileAnswer}
    (hk : s.k = .refill t) (hfile : s.env.file = .count bytes :: more)
    (hlen : bytes.length ≤ s.cfg.bufSize) :
    ctlStep s =
      { s with
        k := .refillReady, fifo := primed t bytes s.fifo
        hist := s.hist ++ [.fileRead t s.cfg.bufSize (.count bytes)]
        env := { s.env with file := more } } := by
  have ha := fileAnswer_of_script t hfile (clipAnswer_count hlen)
  simp only [ctlStep, hk, stepRefill, ha, fileRead, hfile]
  rfl

/-- A refill's error: CTL goes to the failure (R216). -/
theorem ctlStep_of_refill_error {t : BufId} {e : DiskError} (hk : s.k = .refill t)
    (ha : fileAnswer t s.cfg.bufSize s = .error e) :
    ctlStep s = goto (.playFail e) (fileRead t s.cfg.bufSize s) := by
  simp only [ctlStep, hk, stepRefill, ha]

end

/-- PLAY's return from its loop: the disarm and the return in one step (R216, R220; log 6). -/
theorem finish_disarm (code : Byte) (s : State) :
    finish code (disarm s) =
      { s with
        timerArmed := false, result := code, busy := false, op := none, k := .idle
        hist := s.hist ++ [.disarm, .done s.op code] } := by
  simp [finish, disarm]

/-! ## The statements -/

/-- Settles O27: the check's step is the disarm and the return, or the way to the read of `STATUS`. -/
theorem playEndsAtDeclaredSize : Obligations.PlayEndsAtDeclaredSize := by
  intro s hs hm hk
  have hplayed : sizePlayed (takeTurn s) ↔ s.fmt.size.toNat ≤ s.fifo.played.toNat := by
    rw [sizePlayed, takeTurn_fmt, takeTurn_fifo]
  rw [step_of_play hs hm (hk ▸ rfl), ctlStep_of_loopPlayed ((takeTurn_k s).trans hk), stepLoopPlayed,
    finish_disarm, takeTurn_hist, takeTurn_op]
  exact congrArg Host.Outcome.next (if_congr hplayed rfl rfl)

/-- Settles O28, one clause per step of the refill. -/
theorem refillSteps : Obligations.RefillSteps := by
  intro s hs hm
  refine ⟨fun hk => ?_, fun t bytes more hk hfile hlen => ?_, fun hk => ?_⟩
  · rw [step_of_play hs hm (hk ▸ rfl), ctlStep_of_loopStatus ((takeTurn_k s).trans hk), stepLoopStatus,
      takeTurn_fifo, ← apply_ite (goto · (takeTurn s))]
    rfl
  · have hu : ctlStep (takeTurn s) =
        { takeTurn s with
          k := .refillReady, fifo := primed t bytes s.fifo
          hist := s.hist ++ [.fileRead t s.cfg.bufSize (.count bytes)]
          env := { (takeTurn s).env with file := more } } := by
      rw [ctlStep_of_refill_count ((takeTurn_k s).trans hk) ((takeTurn_env_file s).trans hfile)
        ((takeTurn_cfg s).symm ▸ hlen)]
      simp
    refine ⟨_, step_of_play hs hm (hk ▸ rfl), ?_⟩
    rw [hu, primed_buf]
    exact ⟨rfl, fillBuffer_count_read _ bytes⟩
  · rw [step_of_play hs hm (hk ▸ rfl), ctlStep_of_refillReady ((takeTurn_k s).trans hk),
      stepRefillReady, takeTurn_fifo]
    rfl

/-- Settles O29: the error's step is the file read alone, and the failure's step the disarm and the return. -/
theorem refillFailureDisarms : Obligations.RefillFailureDisarms := by
  intro s hs hm
  refine ⟨fun t e more hk hfile => ?_, fun e hk => ?_⟩
  · have ha : fileAnswer t (takeTurn s).cfg.bufSize (takeTurn s) = .error e :=
      fileAnswer_of_script t ((takeTurn_env_file s).trans hfile) rfl
    refine ⟨_, step_of_play hs hm (hk ▸ rfl), ?_⟩
    rw [ctlStep_of_refill_error ((takeTurn_k s).trans hk) ha]
    simp
  · refine ⟨_, step_of_play hs hm (hk ▸ rfl), ?_⟩
    rw [ctlStep_of_playFail ((takeTurn_k s).trans hk), stepPlayFail,
      finish_disarm, takeTurn_hist, takeTurn_op]
    exact ⟨rfl, rfl⟩

end Sys2Proof.Machine
end

section
/-! SUPPORT. A tick in a playback (43_emitter.md R241, 42_fifo_refill.md R225): every byte it reads has been written, so with
data left it faults or plays. -/

namespace Sys2Proof.Machine

/-! ## Every byte a tick reads has been written -/

section
variable {s : State}

/-- The range a tick plays from is written: at a failed refill it is the active one, for a swap would be an underrun. -/
theorem filled_tickRange (h : Playable s) (hloop : inPlayLoop s.k = true) (hu : ¬underrunDue s) :
    Filled s.fifo (tickRange s).act := by
  have hp := h.point
  unfold playPoint at hp
  cases hk : s.k with rw [hk] at hp hloop
  | loopPlayed | loopStatus => cases (tickRange s).act <;> [exact hp.1; exact hp.2]
  | refill | refillReady => cases (tickRange s).act <;> [exact hp.1; exact hp.2.1]
  | playFail =>
    obtain ⟨hact, hst⟩ := hp
    have hx : ¬rangeExhausted s := fun hx => hu ⟨hx, hst⟩
    rwa [tickRange, if_neg hx]
  | _ => cases hloop

/-- A whole sample in a written range has a value (R248). -/
theorem tickSample_ne_none (hfilled : Filled s.fifo (tickRange s).act)
    (hfits : (tickRange s).cur + sampleWidth s ≤ s.fifo.len (tickRange s).act) :
    tickSample s ≠ none := by
  have hread (i : Nat) (hi : i < sampleWidth s) :
      ∃ b, (s.fifo.buf (tickRange s).act).read ((tickRange s).cur + i) = some b :=
    Option.ne_none_iff_exists'.1 (hfilled _ (by omega))
  obtain ⟨b0, h0⟩ := hread 0 (by obtain hw | hw := sampleWidth_eq s <;> omega)
  rw [Nat.add_zero] at h0
  unfold tickSample
  split_ifs with hw
  · obtain ⟨b1, h1⟩ := hread 1 (by omega)
    simp [h0, h1]
  · simp [h0]

/-- In a playback no tick reads a byte nothing has written (10_state.md R26). -/
theorem tick_ne_unwritten (h : Playable s) (hloop : inPlayLoop s.k = true) : tick s ≠ .unwritten := by
  intro ht
  unfold tick at ht
  split at ht
  · cases ht
  split at ht
  · split at ht <;> cases ht
  next hu =>
  split_ifs at ht with hempty hsplit hwrap
  have hend := tickRange_endp (h.range (.inr hloop)).1
  have hsome := tickSample_ne_none (filled_tickRange h hloop hu)
    (by obtain hw | hw := sampleWidth_eq s <;> omega)
  split at ht
  next hnone => exact hsome hnone
  next => cases ht

theorem sizePlayed_of_ack (h : tick s = .ack) : sizePlayed s := by
  unfold tick at h
  split at h
  next hp => exact hp
  split at h
  · split at h <;> cases h
  · split_ifs at h
    split at h <;> cases h

end

/-! ## EMT's step -/

/-- A tick that emits runs DAC_WRITE of its frame word after its own writes (R241). -/
theorem step_of_emits {s : State} {w : Half} (hs : NoFault s) (hm : mover s = some .emt)
    (ht : tick s = .emits w) : step s = .next (emit w (tickCommit (takeTurn s))) := by
  rw [(stepRunsTheDecodedInstruction s _ hs).2.2 w hm ht (decodeWord_bytesOfHalf w)]
  exact exec_dacWrite_fields w _

/-- When EMT moves in a playback it acknowledges, raises a fault, or emits. -/
theorem step_of_tick {s : State} (hs : NoFault s) (h : Playable s) (hloop : inPlayLoop s.k = true)
    (hm : mover s = some .emt) :
    (sizePlayed s ∧ step s = .next (takeTurn s)) ∨
    (∃ kind, step s = .next { takeTurn s with fault := [kind] }) ∨
    (∃ w, tick s = .emits w ∧ step s = .next (emit w (tickCommit (takeTurn s)))) := by
  obtain ⟨-, -, hack, hraise⟩ := stepsThatFetchNothing s hs
  cases ht : tick s with
  | ack => exact .inl ⟨sizePlayed_of_ack ht, hack hm ht⟩
  | raises kind => exact .inr (.inl ⟨kind, hraise kind hm ht⟩)
  | held =>
    have hstep := hasStep_of_mover hm
    simp [hasStep, emtHasStep, tickIsHeld, ht] at hstep
  | unwritten => exact absurd ht (tick_ne_unwritten h hloop)
  | emits w => exact .inr (.inr ⟨w, rfl, step_of_emits hs hm ht⟩)

/-- A tick that emits counts its sample's bytes as played (R250). -/
theorem played_of_emits {s : State} {w : Half} (ht : tick s = .emits w) :
    (emit w (tickCommit (takeTurn s))).fifo.played.toNat = s.fifo.played.toNat + sampleWidth s := by
  obtain ⟨-, -, -, hwrap⟩ := checks_of_emits ht
  have hw : sampleWidth (takeTurn s) = sampleWidth s := by rw [sampleWidth, takeTurn_fmt, sampleWidth]
  rw [emit_fifo, tickCommit_fifo_played, hw, takeTurn_fifo, BitVec.toNat_add, BitVec.toNat_ofNat]
  omega

/-- Settles O37: of what EMT's step can be, an acknowledgement needs the declared size played. -/
theorem everyTickFaultsOrAdvances : Obligations.EveryTickFaultsOrAdvances := by
  intro s hs hstream hm hleft
  obtain ⟨htimer, hplay⟩ := streamInv_iff.1 hstream
  have hloop : inPlayLoop s.k = true := htimer.2 ▸ timerArmed_of_mover_emt hm
  obtain ⟨hp, -⟩ | ⟨kind, hstep⟩ | ⟨w, ht, hstep⟩ := step_of_tick hs hplay hloop hm
  · exact absurd hp (Nat.not_le.2 hleft)
  · exact ⟨_, hstep, .inl (List.cons_ne_nil _ _)⟩
  · exact ⟨_, hstep, .inr (played_of_emits ht)⟩

end Sys2Proof.Machine
end

section
/-! SUPPORT. PLAY's end when CTL and EMT move in turn (42_fifo_refill.md R225, 70_reset_and_hazards.md R336, R337): a measure
that every round of the two decreases. -/

namespace Sys2Proof.Machine

/-- A playback in progress: no fault, the playback invariant, CTL in PLAY's loop. -/
structure PlaybackRunning (s : State) : Prop where
  noFault : NoFault s
  stream : StreamInv s
  loop : inPlayLoop s.k = true

/-- A playback is over: a fault has been raised, or PLAY has returned STREAM_END or a file error's code. -/
def PlaybackOver (u : State) : Prop :=
  u.fault ≠ [] ∨ (Idle u ∧ u.op = none ∧ (u.result = 0x01#8 ∨ ∃ e, u.result = diskErrorCode e))

/-! ## The measure -/

/-- CTL's steps from a point of the loop up to the check of the size. -/
def stepsToCheck : Kont → Nat
  | .loopStatus => 3
  | .refill _ => 2
  | .refillReady => 1
  | _ => 0

/-- CTL's steps from a point of the loop up to the end of a pending refill. -/
def stepsToReady : Kont → Nat
  | .loopPlayed => 4
  | k => stepsToCheck k

/-- EMT's next tick plays a sample or faults: data is left, and no refill is pending. -/
def TickDue (s : State) : Prop := ¬sizePlayed s ∧ s.fifo.status = statusReady

/-- The steps for which EMT may have to wait for CTL. -/
def loopSteps (s : State) : Nat :=
  if sizePlayed s then stepsToCheck s.k
  else if s.fifo.status = statusReady then 0
  else stepsToReady s.k

/-- The bytes of the declared size not played yet. -/
def bytesLeft (s : State) : Nat := s.fmt.size.toNat - s.fifo.played.toNat

/-- What every round of CTL and EMT decreases: a byte counts for more than all of CTL's steps. -/
def playLeft (s : State) : Nat := 5 * bytesLeft s + loopSteps s

theorem loopSteps_le (s : State) : loopSteps s ≤ 4 := by
  have hcheck (k : Kont) : stepsToCheck k ≤ 3 := by unfold stepsToCheck; split <;> omega
  have hready (k : Kont) : stepsToReady k ≤ 4 := by
    unfold stepsToReady
    split
    · omega
    · exact (hcheck _).trans (by omega)
  unfold loopSteps
  split_ifs
  · exact (hcheck _).trans (by omega)
  · omega
  · exact hready _

theorem loopSteps_of_tickDue {s : State} (h : TickDue s) : loopSteps s = 0 := by
  rw [loopSteps, if_neg h.1, if_pos h.2]

@[simp] theorem bytesLeft_takeTurn (s : State) : bytesLeft (takeTurn s) = bytesLeft s := by
  simp [bytesLeft]

@[simp] theorem loopSteps_takeTurn (s : State) : loopSteps (takeTurn s) = loopSteps s := by
  simp [loopSteps]

/-- Less is left after a tick that emits. -/
theorem playLeft_of_emits {s : State} {w : Half} (ht : tick s = .emits w) :
    playLeft (emit w (tickCommit (takeTurn s))) < playLeft s := by
  obtain ⟨hp, -⟩ := checks_of_emits ht
  have hplayed := played_of_emits ht
  have hsteps := loopSteps_le (emit w (tickCommit (takeTurn s)))
  have hfmt : (emit w (tickCommit (takeTurn s))).fmt = s.fmt := by simp
  unfold playLeft bytesLeft
  rw [hfmt, hplayed]
  obtain hw | hw := sampleWidth_eq s <;> omega

/-! ## CTL's step -/

/-- CTL goes on in the loop: it uses up one of the steps EMT may have to wait for, or EMT has not to wait. -/
structure LoopGoesOn (s t : State) : Prop where
  fault : t.fault = s.fault
  refused : t.refused = s.refused
  sched : t.env.sched = s.env.sched
  bytes : bytesLeft t = bytesLeft s
  loop : inPlayLoop t.k = true
  steps : TickDue t ∨ loopSteps t < loopSteps s

theorem playbackOver_of_finish_disarm {s : State} {code : Byte}
    (h : code = 0x01#8 ∨ ∃ e, code = diskErrorCode e) : PlaybackOver (finish code (disarm s)) :=
  .inr ⟨⟨rfl, rfl, rfl⟩, rfl, h⟩

section
variable {s : State}

theorem status_ne_ready (h : s.fifo.status = statusFilling) : s.fifo.status ≠ statusReady := by
  rw [h]
  decide

theorem stepLoopPlayed_over_or_goes_on (h : Playable s) (hk : s.k = .loopPlayed) :
    PlaybackOver (stepLoopPlayed s) ∨ LoopGoesOn s (stepLoopPlayed s) := by
  unfold stepLoopPlayed
  split_ifs with hp
  · exact .inl (playbackOver_of_finish_disarm (.inl rfl))
  · refine .inr ⟨rfl, rfl, rfl, rfl, rfl, ?_⟩
    obtain hready | hfilling := h.bounds.status
    · exact .inl ⟨hp, hready⟩
    · have hst := status_ne_ready hfilling
      exact .inr (by simp [loopSteps, hp, hst, hk, stepsToReady, stepsToCheck])

theorem stepLoopStatus_goes_on (h : Playable s) (hk : s.k = .loopStatus) :
    LoopGoesOn s (stepLoopStatus s) := by
  unfold stepLoopStatus
  split_ifs with hfilling
  · have hst := status_ne_ready hfilling
    refine ⟨rfl, rfl, rfl, rfl, rfl, .inr ?_⟩
    simp [loopSteps, hst, hk, stepsToReady, stepsToCheck]
  · refine ⟨rfl, rfl, rfl, rfl, rfl, ?_⟩
    have hready := h.bounds.status.resolve_right hfilling
    by_cases hp : sizePlayed s
    · exact .inr (by simp [loopSteps, hp, hk, stepsToCheck])
    · exact .inl ⟨hp, hready⟩

theorem stepRefill_goes_on {b : BufId} (h : Playable s) (hk : s.k = .refill b) :
    LoopGoesOn s (stepRefill b s) := by
  have hp := h.point
  rw [playPoint, hk] at hp
  obtain ⟨-, -, hfilling, -⟩ := hp
  have hst := status_ne_ready hfilling
  unfold stepRefill
  split
  all_goals
    refine ⟨rfl, rfl, rfl, ?_, rfl, .inr ?_⟩
    · simp [bytesLeft]
    · simp [loopSteps, hst, hk, stepsToReady, stepsToCheck]

theorem stepRefillReady_goes_on (hk : s.k = .refillReady) : LoopGoesOn s (stepRefillReady s) := by
  refine ⟨rfl, rfl, rfl, rfl, rfl, ?_⟩
  by_cases hp : sizePlayed s
  · have hp' : sizePlayed (stepRefillReady s) := hp
    rw [loopSteps, if_pos hp', loopSteps, if_pos hp, hk]
    exact .inr Nat.one_pos
  · exact .inl ⟨hp, rfl⟩

/-- In PLAY's loop CTL ends the playback or goes on. -/
theorem ctlStep_over_or_goes_on (h : Playable s) (hloop : inPlayLoop s.k = true) :
    PlaybackOver (ctlStep s) ∨ LoopGoesOn s (ctlStep s) := by
  unfold ctlStep
  cases hk : s.k with rw [hk] at hloop
  | loopPlayed => exact stepLoopPlayed_over_or_goes_on h hk
  | loopStatus => exact .inr (stepLoopStatus_goes_on h hk)
  | refill b => exact .inr (stepRefill_goes_on h hk)
  | refillReady => exact .inr (stepRefillReady_goes_on hk)
  | playFail e => exact .inl (playbackOver_of_finish_disarm (.inr ⟨e, rfl⟩))
  | _ => cases hloop

end

/-! ## Whose turn it is -/

theorem kontOp_of_loop {k : Kont} (h : inPlayLoop k = true) : kontOp k = some .play := by
  by_contra hne
  rw [inPlayLoop_of_not_play hne] at h
  cases h

section
variable {s : State} (h : PlaybackRunning s)
include h

theorem PlaybackRunning.playable : Playable s := (streamInv_iff.1 h.stream).2

theorem PlaybackRunning.armed : s.timerArmed = true := by
  obtain ⟨⟨-, htimer⟩, -⟩ := streamInv_iff.1 h.stream
  rw [htimer, h.loop]

/-- In a playback HOST has no step, and CTL has one. -/
theorem PlaybackRunning.enabledAgents : ∃ more, enabledAgents s = .ctl :: more := by
  obtain ⟨⟨⟨hbusy, hop, -⟩, -⟩, -⟩ := streamInv_iff.1 h.stream
  have hplay := kontOp_of_loop h.loop
  rw [hop, hplay] at hbusy
  simp [Machine.enabledAgents, Machine.hasStep, hostHasStep_of_busy hbusy, ctlHasStep_of_play hplay,
    List.filter_cons]

theorem PlaybackRunning.mover {a : Agent} {more : List Agent} (hsched : s.env.sched = a :: more) :
    mover s = some (pick s a .ctl) := by
  obtain ⟨more, he⟩ := h.enabledAgents
  simp only [Machine.mover, he, hsched]

/-- A step that leaves `FAULT`, `REFUSED` and the loop keeps the playback running. -/
theorem PlaybackRunning.next {t : State} (hstep : step s = .next t) (hfault : t.fault = s.fault)
    (hrefused : t.refused = s.refused) (hloop : inPlayLoop t.k = true) : PlaybackRunning t := by
  obtain ⟨hf, hr⟩ := h.noFault
  exact ⟨⟨hfault.trans hf, hrefused.trans hr⟩, everyStepKeepsThePlayback s t h.stream hstep, hloop⟩

/-- Where a tick is due EMT is not held. -/
theorem PlaybackRunning.hasStep_emt_of_tickDue (hdue : TickDue s) : hasStep s .emt = true := by
  have hu : ¬underrunDue s := fun ⟨_, hfilling⟩ => status_ne_ready hfilling hdue.2
  have ht : tick s ≠ .held := by
    rw [tick, if_neg hdue.1, if_neg hu]
    split_ifs <;> [nofun; nofun; nofun; split <;> nofun]
  simp [Machine.hasStep, emtHasStep, h.armed, tickIsHeld, ht]

end

theorem takeTurn_env_sched {s : State} {a : Agent} {more : List Agent} (hsched : s.env.sched = a :: more) :
    (takeTurn s).env.sched = more := by
  simp only [takeTurn, hsched]

/-! ## A turn, and a round -/

/-- A playback goes on with the rest of the schedule, and no more of it is left than before. -/
structure TurnTaken (more : List Agent) (s t : State) : Prop where
  running : PlaybackRunning t
  sched : t.env.sched = more
  left : playLeft t ≤ playLeft s

section
variable {s : State} {a : Agent} {more : List Agent} (h : PlaybackRunning s)
  (hsched : s.env.sched = a :: more)
include h hsched

/-- CTL's move. -/
theorem turnTaken_of_ctl (hm : mover s = some .ctl) :
    ∃ t, step s = .next t ∧
      (PlaybackOver t ∨ TurnTaken more s t ∧ (TickDue t ∨ playLeft t < playLeft s)) := by
  have hstep := step_of_play h.noFault hm (kontOp_of_loop h.loop)
  have hloop : inPlayLoop (takeTurn s).k = true := by rw [takeTurn_k, h.loop]
  refine ⟨_, hstep, (ctlStep_over_or_goes_on h.playable.takeTurn hloop).imp_right fun hg => ?_⟩
  obtain ⟨hfault, hrefused, hrest, hbytes, hloop', hsteps⟩ := hg
  rw [bytesLeft_takeTurn] at hbytes
  rw [loopSteps_takeTurn] at hsteps
  have hrunning :=
    h.next hstep (hfault.trans (takeTurn_fault s)) (hrefused.trans (takeTurn_refused s)) hloop'
  have hrest' := hrest.trans (takeTurn_env_sched hsched)
  obtain hdue | hlt := hsteps
  · have hleft : playLeft (ctlStep (takeTurn s)) ≤ playLeft s := by
      rw [playLeft, hbytes, loopSteps_of_tickDue hdue]
      exact Nat.le_add_right _ _
    exact ⟨⟨hrunning, hrest', hleft⟩, .inl hdue⟩
  · have hleft : playLeft (ctlStep (takeTurn s)) < playLeft s := by
      rw [playLeft, hbytes]
      exact Nat.add_lt_add_left hlt _
    exact ⟨⟨hrunning, hrest', hleft.le⟩, .inr hleft⟩

/-- EMT's move. -/
theorem turnTaken_of_emt (hm : mover s = some .emt) :
    ∃ t, step s = .next t ∧
      (PlaybackOver t ∨ TurnTaken more s t ∧ (TickDue s → playLeft t < playLeft s)) := by
  have hrest := takeTurn_env_sched hsched
  have hloop : inPlayLoop (takeTurn s).k = true := by rw [takeTurn_k, h.loop]
  obtain ⟨hp, hstep⟩ | ⟨kind, hstep⟩ | ⟨w, ht, hstep⟩ :=
    step_of_tick h.noFault h.playable h.loop hm
  · have hrunning := h.next hstep (takeTurn_fault s) (takeTurn_refused s) hloop
    have hleft : playLeft (takeTurn s) = playLeft s := by simp [playLeft]
    exact ⟨_, hstep, .inr ⟨⟨hrunning, hrest, hleft.le⟩, fun hdue => absurd hp hdue.1⟩⟩
  · exact ⟨_, hstep, .inl (.inl (List.cons_ne_nil _ _))⟩
  · have hrunning := h.next hstep (takeTurn_fault s) (takeTurn_refused s) hloop
    have hleft := playLeft_of_emits ht
    exact ⟨_, hstep, .inr ⟨⟨hrunning, hrest, hleft.le⟩, fun _ => hleft⟩⟩

end

/-- EMT's turn in the schedule: CTL takes it where the tick is held, and then no tick is due. -/
theorem turnTaken_of_emt_named {s : State} {more : List Agent} (h : PlaybackRunning s)
    (hsched : s.env.sched = .emt :: more) :
    ∃ t, step s = .next t ∧
      (PlaybackOver t ∨ TurnTaken more s t ∧ (TickDue s → playLeft t < playLeft s)) := by
  have hm := h.mover hsched
  by_cases he : hasStep s .emt = true
  · rw [pick, if_pos he] at hm
    exact turnTaken_of_emt h hsched hm
  · rw [pick, if_neg he] at hm
    obtain ⟨t, hstep, hover | ⟨hturn, -⟩⟩ := turnTaken_of_ctl h hsched hm
    · exact ⟨t, hstep, .inl hover⟩
    · exact ⟨t, hstep, .inr ⟨hturn, fun hdue => absurd (h.hasStep_emt_of_tickDue hdue) he⟩⟩

/-! ## Rounds -/

/-- With a round for every unit of the measure, the playback ends. -/
theorem ends_of_alternating {m : Nat} {s : State} (h : PlaybackRunning s)
    (hsched : s.env.sched = alternating m) (hleft : playLeft s < m) :
    ∃ n u, Runs n s u ∧ PlaybackOver u := by
  induction m generalizing s with
  | zero => exact absurd hleft (Nat.not_lt_zero _)
  | succ m ih =>
    have hm : mover s = some .ctl := (h.mover hsched).trans (congrArg some (ite_self _))
    obtain ⟨t, hst, hover | ⟨ht, hdue⟩⟩ := turnTaken_of_ctl h hsched hm
    · exact ⟨1, t, runs_succ.2 ⟨t, hst, rfl⟩, hover⟩
    obtain ⟨u, htu, hover | ⟨hu, hlt⟩⟩ := turnTaken_of_emt_named ht.running ht.sched
    · exact ⟨2, u, runs_succ.2 ⟨t, hst, runs_succ.2 ⟨u, htu, rfl⟩⟩, hover⟩
    have hless : playLeft u < playLeft s := by
      obtain hdue | hlt' := hdue
      · exact (hlt hdue).trans_le ht.left
      · exact hu.left.trans_lt hlt'
    obtain ⟨n, v, hrun, hover⟩ := ih hu.running hu.sched (by omega)
    exact ⟨n + 2, v, runs_succ.2 ⟨t, hst, runs_succ.2 ⟨u, htu, hrun⟩⟩, hover⟩

/-- Settles O60: one round more than the measure is enough. -/
theorem playEndsWhenBothContextsMove : Obligations.PlayEndsWhenBothContextsMove := by
  intro s hs hstream hloop
  obtain ⟨n, u, hrun, hover⟩ :=
    ends_of_alternating (s := { s with env := { s.env with sched := alternating (playLeft s + 1) } })
      ⟨hs, hstream, hloop⟩ rfl (Nat.lt_succ_self (playLeft s))
  exact ⟨_, n, u, hrun, hover⟩

end Sys2Proof.Machine
end

section
/-! SUPPORT. The DAC frame (43_emitter.md R249 to R256): what the bit-bang leaves on the lines, the bits of a sample's
frame word, and what each kind of high-byte map makes of them. -/

namespace Sys2Proof.Machine

/-! ## The lines after a frame -/

/-- Clocking out leaves the clock low and the last bit on the data line. -/
theorem foldl_driveDac_clockOut (w : Half) (n : Nat) (d : DacLines) :
    (clockOut w (n + 1)).foldl driveDac d = { d with sck := false, sdi := w.getLsbD 0 } := by
  induction n generalizing d with
  | zero => rfl
  | succ n ih => rw [clockOut, List.foldl_cons, List.foldl_cons, List.foldl_cons, ih]; rfl

theorem foldl_driveDac_dacActs (w : Half) (d : DacLines) :
    (dacActs w).foldl driveDac d = { cs := .deasserted, sck := false, sdi := w.getLsbD 0 } := by
  rw [dacActs, List.foldl_cons, List.foldl_append, foldl_driveDac_clockOut]
  rfl

/-- The bit-bang sequence by its result (R256). -/
theorem emit_eq_frameSent (w : Half) (s : State) : emit w s = frameSent w s := by
  rw [emit, frameSent, foldl_driveDac_dacActs]

/-- Settles O14: the word's bit 0, left on the data line, is bit 0 of its data field. -/
theorem dacWriteSendsItsFrame : Obligations.DacWriteSendsItsFrame := by
  intro ctrl data s
  have hbit : (ctrl ++ data).getLsbD 0 = data.getLsbD 0 := BitVec.getLsbD_append
  rw [exec, execDacWrite, emit_eq_frameSent, frameSent, hbit]

/-! ## The fields of a sample's frame word -/

section
variable (p : Params) (v : Half)

theorem getLsbD_dacData (i : Nat) :
    (dacData p v).getLsbD i =
      if i < 4 then (v.extractLsb' 4 4).getLsbD i
      else (hiMap p.hiBitMap (v.extractLsb' 8 8)).getLsbD (i - 4) :=
  BitVec.getLsbD_append

theorem getLsbD_frameWord (i : Nat) :
    (frameWord p v).getLsbD i =
      if i < 12 then (dacData p v).getLsbD i else p.dacPrefix.getLsbD (i - 12) :=
  BitVec.getLsbD_append

theorem getLsbD_hiMap (m : Vector (Fin 8) 8) (hi : Byte) (j : Fin 8) :
    (hiMap m hi).getLsbD j.val = hi.getLsbD m[j].val := by
  simp [hiMap]

theorem getLsbD_frameWord_prefix (i : Nat) :
    (frameWord p v).getLsbD (12 + i) = p.dacPrefix.getLsbD i := by
  rw [getLsbD_frameWord, if_neg (by omega), Nat.add_sub_cancel_left]

/-- Slot `j` of the high byte, at bit `4 + j` (R252). -/
theorem getLsbD_frameWord_slot (j : Fin 8) :
    (frameWord p v).getLsbD (4 + j.val) = v.getLsbD (8 + p.hiBitMap[j].val) := by
  rw [getLsbD_frameWord, if_pos (by omega), getLsbD_dacData, if_neg (by omega),
    Nat.add_sub_cancel_left, getLsbD_hiMap, BitVec.getLsbD_extractLsb',
    decide_eq_true p.hiBitMap[j].isLt, Bool.true_and]

/-- The low nibble is `V[7:4]` (R251). -/
theorem extractLsb'_frameWord_low : (frameWord p v).extractLsb' 0 4 = v.extractLsb' 4 4 := by
  refine BitVec.eq_of_getLsbD_eq fun i hi => ?_
  rw [BitVec.getLsbD_extractLsb', decide_eq_true hi, Bool.true_and, Nat.zero_add,
    getLsbD_frameWord, if_pos (by omega), getLsbD_dacData, if_pos hi]

theorem getLsbD_frameWord_low (j : Fin 4) :
    (frameWord p v).getLsbD j.val = v.getLsbD (4 + j.val) := by
  have hlow := congrArg (·.getLsbD j.val) (extractLsb'_frameWord_low p v)
  simpa only [BitVec.getLsbD_extractLsb', j.isLt, decide_true, Bool.true_and, Nat.zero_add] using hlow

theorem extractLsb'_frameWord_data : (frameWord p v).extractLsb' 0 12 = dacData p v :=
  BitVec.extractLsb'_append_eq_right

end

/-! ## The two kinds of high-byte map (R252) -/

/-- Only the bits some slot carries count. -/
theorem hiMap_congr {m : Vector (Fin 8) 8} {hi hi' : Byte}
    (h : ∀ j : Fin 8, hi.getLsbD m[j].val = hi'.getLsbD m[j].val) : hiMap m hi = hiMap m hi' := by
  refine BitVec.eq_of_getLsbD_eq fun i hlt => ?_
  rw [getLsbD_hiMap m hi ⟨i, hlt⟩, getLsbD_hiMap m hi' ⟨i, hlt⟩, h]

theorem hiMap_fullMap (hi : Byte) : hiMap Params.fullMap hi = hi := by
  have hslot : ∀ j : Fin 8, Params.fullMap[j] = j := by decide
  refine BitVec.eq_of_getLsbD_eq fun i hlt => ?_
  rw [getLsbD_hiMap _ _ ⟨i, hlt⟩, hslot]

theorem dacData_of_fullMap {p : Params} (v : Half) (h : p.hiBitMap = Params.fullMap) :
    dacData p v = v.extractLsb' 4 12 := by
  rw [dacData, h, hiMap_fullMap]
  exact BitVec.extractLsb'_append_extractLsb'_eq_extractLsb' rfl

/-- Seven different bits other than bit 0 are all of a byte's bits but bit 0. -/
theorem mem_of_seven_nonzero {l : List (Fin 8)} (hnodup : l.Nodup) (hlen : l.length = 7)
    (hzero : 0 ∉ l) {i : Fin 8} (hi : i ≠ 0) : i ∈ l := by
  have hcard : l.toFinset.card = 7 := (List.toFinset_card_of_nodup hnodup).trans hlen
  have hsub : l.toFinset ⊆ Finset.univ.erase 0 := fun j hj =>
    Finset.mem_erase.2 ⟨fun h0 => hzero (h0 ▸ List.mem_toFinset.1 hj), Finset.mem_univ j⟩
  have hall : l.toFinset = Finset.univ.erase 0 :=
    Finset.eq_of_subset_of_card_le hsub (by simp [hcard])
  rw [← List.mem_toFinset, hall]
  exact Finset.mem_erase.2 ⟨hi, Finset.mem_univ i⟩

section
variable {m : Vector (Fin 8) 8} (h : Params.lossyMap m)
include h

theorem slot_ne_zero_of_lossyMap (j : Fin 8) : m[j] ≠ 0 :=
  fun h0 => List.count_eq_zero.1 h.1 (Vector.mem_toList_iff.2 (h0 ▸ Vector.getElem_mem j.isLt))

/-- With the second of the two equal slots left out, a Lossy map has seven different entries, none of them 0. -/
theorem exists_slot_of_lossyMap {i : Fin 8} (hi : i ≠ 0) : ∃ j : Fin 8, m[j] = i := by
  obtain ⟨hzero, twice, htwice, honce⟩ := h
  have hnodup : (m.toList.erase twice).Nodup := by
    refine List.nodup_iff_count_le_one.2 fun j => ?_
    by_cases hj : j = twice
    · rw [hj, List.count_erase_self, htwice]
    · rw [List.count_erase_of_ne hj]
      exact honce j hj
  have htwice' : twice ∈ m.toList := List.count_pos_iff.1 (by omega)
  have hlen : (m.toList.erase twice).length = 7 := by
    rw [List.length_erase_of_mem htwice', Vector.length_toList]
  have hzero' : 0 ∉ m.toList.erase twice :=
    fun h0 => List.count_eq_zero.1 hzero (List.mem_of_mem_erase h0)
  have hmem := List.mem_of_mem_erase (mem_of_seven_nonzero hnodup hlen hzero' hi)
  obtain ⟨j, hj, hji⟩ := Vector.mem_iff_getElem.1 (Vector.mem_toList_iff.1 hmem)
  exact ⟨⟨j, hj⟩, hji⟩

/-- A Lossy map drops bit 0 of the high byte. -/
theorem hiMap_xor_one_of_lossyMap (hi : Byte) : hiMap m (hi ^^^ 1#8) = hiMap m hi := by
  refine hiMap_congr fun j => ?_
  have hj : m[j].val ≠ 0 := fun h0 => slot_ne_zero_of_lossyMap h j (Fin.ext h0)
  rw [BitVec.getLsbD_xor, BitVec.getLsbD_one, decide_eq_false hj, Bool.and_false, Bool.xor_false]

end

theorem frameWord_xor_bit8_of_lossyMap {p : Params} (v : Half) (h : Params.lossyMap p.hiBitMap) :
    frameWord p (v ^^^ 0x0100#16) = frameWord p v := by
  have hhigh : (v ^^^ 0x0100#16).extractLsb' 8 8 = v.extractLsb' 8 8 ^^^ 1#8 :=
    BitVec.extractLsb'_xor
  have hlow : (v ^^^ 0x0100#16).extractLsb' 4 4 = v.extractLsb' 4 4 :=
    BitVec.extractLsb'_xor.trans BitVec.xor_zero
  rw [frameWord, dacData, hhigh, hlow, hiMap_xor_one_of_lossyMap h, frameWord, dacData]

/-- Settles O16: the three fields, then the two kinds of map. -/
theorem frameWordBits : Obligations.FrameWordBits := fun p v =>
  ⟨fun j => getLsbD_frameWord_prefix p v j.val, getLsbD_frameWord_slot p v,
    getLsbD_frameWord_low p v,
    fun hfull => (extractLsb'_frameWord_data p v).trans (dacData_of_fullMap v hfull),
    fun hlossy =>
      ⟨fun _ hi => exists_slot_of_lossyMap hlossy hi, frameWord_xor_bit8_of_lossyMap v hlossy⟩⟩

/-! ## The sample's sign (R249, R254) -/

/-- A byte with its sign bit flipped is the signed byte moved up by 128. -/
theorem toNat_xor_signBit (b : Byte) : ((b ^^^ 0x80#8).toNat : Int) = b.toInt + 128 := by
  revert b
  decide

theorem toNat_sampleValue16 (b0 b1 : Byte) :
    (sampleValue16 b0 b1).toNat = (b1 ^^^ 0x80#8).toNat * 256 + b0.toNat := by
  have happend : (sampleValue16 b0 b1).toNat = (b1 ^^^ 0x80#8).toNat <<< 8 ||| b0.toNat :=
    BitVec.toNat_append _ _
  rw [happend, ← Nat.shiftLeft_add_eq_or_of_lt b0.isLt, Nat.shiftLeft_eq]

theorem toNat_sampleValue16_eq_toInt_add (b0 b1 : Byte) :
    ((sampleValue16 b0 b1).toNat : Int) = (b1 ++ b0 : BitVec 16).toInt + 32768 := by
  have hsigned : (b1 ++ b0 : BitVec 16).toInt = 2 ^ 8 * b1.toInt + b0.toNat := BitVec.toInt_append
  have hflip := toNat_xor_signBit b1
  rw [toNat_sampleValue16, hsigned]
  omega

theorem getLsbD_sampleValue16_top (b0 b1 : Byte) :
    (sampleValue16 b0 b1).getLsbD 15 = !b1.getLsbD 7 := by
  have htop : (sampleValue16 b0 b1).getLsbD 15 = (b1 ^^^ 0x80#8).getLsbD 7 := BitVec.getLsbD_append
  rw [htop, BitVec.getLsbD_xor]
  exact Bool.xor_true _

/-- Settles O17: the sample's arithmetic, its top bit in slot 7, and its low nibble. -/
theorem signFlipCentresTheSample : Obligations.SignFlipCentresTheSample := by
  intro p b0 b1
  refine ⟨toNat_sampleValue16_eq_toInt_add b0 b1, fun h7 => ?_, ?_, ?_⟩
  · have hslot : (frameWord p (sampleValue16 b0 b1)).getLsbD 11 =
        (sampleValue16 b0 b1).getLsbD (8 + p.hiBitMap[7].val) :=
      getLsbD_frameWord_slot p _ 7
    rw [hslot, h7, getLsbD_sampleValue16_top]
  · rw [extractLsb'_frameWord_low]
    exact BitVec.extractLsb'_append_eq_of_add_le (by omega)
  · rw [extractLsb'_frameWord_low]
    exact (BitVec.extractLsb'_append_eq_of_add_le (by omega)).trans rfl

end Sys2Proof.Machine
end

section
/-! SUPPORT. The tick (43_emitter.md R241 to R250): what it comes to in each case of its checks, and the step of EMT
that follows. -/

namespace Sys2Proof.Machine

/-! ## The sample's width and the writes of a tick -/

section
variable {s : State}

theorem sampleWidth_of_16 (h : s.fmt.bps = 16#8) : sampleWidth s = 2 := if_pos h

theorem sampleWidth_of_8 (h : s.fmt.bps = 8#8) : sampleWidth s = 1 :=
  if_neg (by rw [h]; decide)

/-- Without a swap a tick moves the cursor and the counter only (R241). -/
theorem tickCommit_fifo_of_active (hx : ¬rangeExhausted s) :
    (tickCommit s).fifo =
      { s.fifo with
        cur := s.fifo.cur + sampleWidth s
        played := s.fifo.played + BitVec.ofNat 32 (sampleWidth s) } := by
  simp [tickCommit, tickRange, hx]

/-- A tick that swaps plays from the start of the other buffer's live range (R244). -/
theorem tickCommit_fifo_of_exhausted (hx : rangeExhausted s) :
    (tickCommit s).fifo =
      { s.fifo with
        act := s.fifo.act.other, cur := sampleWidth s, endp := s.fifo.len s.fifo.act.other
        status := statusFilling
        played := s.fifo.played + BitVec.ofNat 32 (sampleWidth s) } := by
  simp [tickCommit, tickRange, hx]

/-- A tick writes the FIFO's registers only, and none by the schedule's turn. -/
theorem tickCommit_takeTurn (s : State) :
    tickCommit (takeTurn s) = { takeTurn s with fifo := (tickCommit s).fifo } := by
  obtain ⟨_, _, h⟩ := takeTurn_eq s
  rw [h]
  rfl

end

/-! ## What a tick comes to -/

/-- A tick past its first two checks, with data left and no underrun due, and the range it plays from (R241 to R245). -/
structure PlaysFrom (s : State) (r : PlayRange) : Prop where
  left : ¬sizePlayed s
  due : ¬underrunDue s
  range : tickRange s = r

section
variable {s : State}

theorem tick_of_sizePlayed (h : sizePlayed s) : tick s = .ack := if_pos h

theorem tick_of_underrunDue_fault (hleft : ¬sizePlayed s) (hdue : underrunDue s)
    (hmode : s.cfg.underrunMode = .fault) : tick s = .raises .underrun := by
  rw [tick, if_neg hleft, if_pos hdue, hmode]

theorem tick_of_underrunDue_hold (hleft : ¬sizePlayed s) (hdue : underrunDue s)
    (hmode : s.cfg.underrunMode = .hold) : tick s = .held := by
  rw [tick, if_neg hleft, if_pos hdue, hmode]

theorem PlaysFrom.active (hleft : ¬sizePlayed s) (hx : s.fifo.cur < s.fifo.endp) :
    PlaysFrom s ⟨s.fifo.act, s.fifo.cur, s.fifo.endp⟩ where
  left := hleft
  due := fun hdue => Nat.not_le.2 hx hdue.1
  range := if_neg (Nat.not_le.2 hx)

theorem PlaysFrom.swapped (hleft : ¬sizePlayed s) (hx : rangeExhausted s)
    (hst : s.fifo.status ≠ statusFilling) :
    PlaysFrom s ⟨s.fifo.act.other, 0, s.fifo.len s.fifo.act.other⟩ where
  left := hleft
  due := fun hdue => hst hdue.2
  range := if_pos hx

variable {r : PlayRange}

theorem PlaysFrom.raises_emptyRange (h : PlaysFrom s r) (hempty : r.endp ≤ r.cur) :
    tick s = .raises .emptyRange := by
  rw [tick, if_neg h.left, if_neg h.due, h.range, if_pos hempty]

theorem PlaysFrom.raises_splitSample (h : PlaysFrom s r) (hbps : s.fmt.bps = 16#8)
    (hone : r.endp = r.cur + 1) : tick s = .raises .splitSample := by
  rw [tick, if_neg h.left, if_neg h.due, h.range, if_neg (by omega),
    if_pos ⟨sampleWidth_of_16 hbps, by omega⟩]

theorem PlaysFrom.raises_playedWrap (h : PlaysFrom s r) (hfits : r.cur + sampleWidth s ≤ r.endp)
    (hwrap : 2 ^ 32 ≤ s.fifo.played.toNat + sampleWidth s) : tick s = .raises .playedWrap := by
  have hw := sampleWidth_eq s
  rw [tick, if_neg h.left, if_neg h.due, h.range, if_neg (by omega), if_neg (by omega), if_pos hwrap]

theorem PlaysFrom.emits {v : Half} (h : PlaysFrom s r) (hfits : r.cur + sampleWidth s ≤ r.endp)
    (hroom : s.fifo.played.toNat + sampleWidth s < 2 ^ 32) (hv : tickSample s = some v) :
    tick s = .emits (frameWord s.cfg v) := by
  have hw := sampleWidth_eq s
  rw [tick, if_neg h.left, if_neg h.due, h.range, if_neg (by omega), if_neg (by omega),
    if_neg (Nat.not_le.2 hroom), hv]

/-- A 16-bit sample is little-endian in the buffer (R248, R249). -/
theorem PlaysFrom.tickSample_16 {b0 b1 : Byte} (h : PlaysFrom s r) (hbps : s.fmt.bps = 16#8)
    (h0 : (s.fifo.buf r.act).read r.cur = some b0)
    (h1 : (s.fifo.buf r.act).read (r.cur + 1) = some b1) :
    tickSample s = some (sampleValue16 b0 b1) := by
  simp only [tickSample, sampleWidth_of_16 hbps, if_true, h.range, h0, h1]

/-- An 8-bit sample is one byte (R248). -/
theorem PlaysFrom.tickSample_8 {b0 : Byte} (h : PlaysFrom s r) (hbps : s.fmt.bps = 8#8)
    (h0 : (s.fifo.buf r.act).read r.cur = some b0) : tickSample s = some (sampleValue8 b0) := by
  simp [tickSample, sampleWidth_of_8 hbps, h.range, h0]

/-! ## EMT's step -/

variable (hs : NoFault s) (hm : mover s = some .emt)
include hs hm

/-- A tick that raises a fault writes nothing else (60_exceptions.md R290). -/
theorem step_of_raises {kind : FaultKind} (ht : tick s = .raises kind) :
    step s = .next { takeTurn s with fault := [kind] } :=
  (stepsThatFetchNothing s hs).2.2.2 kind hm ht

/-- A tick that passes every check with the sample value `v`. -/
theorem PlaysFrom.step_eq {v : Half} (h : PlaysFrom s r) (hfits : r.cur + sampleWidth s ≤ r.endp)
    (hroom : s.fifo.played.toNat + sampleWidth s < 2 ^ 32) (hv : tickSample s = some v) :
    step s = .next
      (frameSent (frameWord s.cfg v) { takeTurn s with fifo := (tickCommit s).fifo }) := by
  rw [step_of_emits hs hm (h.emits hfits hroom hv), emit_eq_frameSent, tickCommit_takeTurn]

theorem PlaysFrom.step_eq_16 {b0 b1 : Byte} (h : PlaysFrom s r) (hbps : s.fmt.bps = 16#8)
    (hfits : r.cur + 2 ≤ r.endp) (hroom : s.fifo.played.toNat + 2 < 2 ^ 32)
    (h0 : (s.fifo.buf r.act).read r.cur = some b0)
    (h1 : (s.fifo.buf r.act).read (r.cur + 1) = some b1) :
    step s = .next
      (frameSent (frameWord s.cfg (sampleValue16 b0 b1))
        { takeTurn s with fifo := (tickCommit s).fifo }) := by
  have hw := sampleWidth_of_16 hbps
  exact h.step_eq hs hm (by rwa [hw]) (by rwa [hw]) (h.tickSample_16 hbps h0 h1)

/-- An 8-bit sample never takes the counter past 2^32: with data left it is below the size, a 32-bit number. -/
theorem PlaysFrom.step_eq_8 {b0 : Byte} (h : PlaysFrom s r) (hbps : s.fmt.bps = 8#8)
    (hfits : r.cur < r.endp) (h0 : (s.fifo.buf r.act).read r.cur = some b0) :
    step s = .next
      (frameSent (frameWord s.cfg (sampleValue8 b0))
        { takeTurn s with fifo := (tickCommit s).fifo }) := by
  have hw := sampleWidth_of_8 hbps
  have hleft := h.left
  have hsize := s.fmt.size.isLt
  exact h.step_eq hs hm (by rwa [hw]) (by omega) (h.tickSample_8 hbps h0)

end

/-! ## The statements -/

/-- Settles O30: step 0 of a tick comes before its checks. -/
theorem tickAfterTheEndDoesNothing : Obligations.TickAfterTheEndDoesNothing :=
  fun s hs hm hend => (stepsThatFetchNothing s hs).2.2.1 hm (tick_of_sizePlayed hend)

/-- Settles O31, by width. -/
theorem tickPlaysTheActiveRange : Obligations.TickPlaysTheActiveRange := by
  intro s hs hm hleft
  have hleft' : ¬sizePlayed s := Nat.not_le.2 hleft
  refine ⟨fun b0 b1 hbps hfits hroom h0 h1 => ?_, fun b0 hbps hfits h0 => ?_⟩
  · have hx : s.fifo.cur < s.fifo.endp := by omega
    rw [(PlaysFrom.active hleft' hx).step_eq_16 hs hm hbps hfits hroom h0 h1,
      tickCommit_fifo_of_active (Nat.not_le.2 hx), sampleWidth_of_16 hbps]
    rfl
  · rw [(PlaysFrom.active hleft' hfits).step_eq_8 hs hm hbps hfits h0,
      tickCommit_fifo_of_active (Nat.not_le.2 hfits), sampleWidth_of_8 hbps]
    rfl

/-- Settles O32, by width. -/
theorem tickSwapsThenPlays : Obligations.TickSwapsThenPlays := by
  intro s hs hm hleft hx hst
  have h := PlaysFrom.swapped (Nat.not_le.2 hleft) hx hst
  refine ⟨fun b0 b1 hbps hfits hroom h0 h1 => ?_, fun b0 hbps hfits h0 => ?_⟩
  · rw [h.step_eq_16 hs hm hbps (by simpa using hfits) hroom h0 h1, tickCommit_fifo_of_exhausted hx,
      sampleWidth_of_16 hbps]
    rfl
  · rw [h.step_eq_8 hs hm hbps hfits h0, tickCommit_fifo_of_exhausted hx, sampleWidth_of_8 hbps]
    rfl

/-- Settles O33, by mode. -/
theorem tickUnderrun : Obligations.TickUnderrun := by
  intro s hs hleft hx hst
  have hleft' : ¬sizePlayed s := Nat.not_le.2 hleft
  refine ⟨fun hmode hm => ?_, fun hmode => ?_⟩
  · exact step_of_raises hs hm (tick_of_underrunDue_fault hleft' ⟨hx, hst⟩ hmode)
  · have hheld : tickIsHeld s = true :=
      decide_eq_true (tick_of_underrunDue_hold hleft' ⟨hx, hst⟩ hmode)
    rw [hasStep, emtHasStep, hheld, Bool.not_true, Bool.and_false]

/-- Settles O34: the range a swap would make active is empty. -/
theorem tickEmptyRangeFaults : Obligations.TickEmptyRangeFaults :=
  fun _ hs hm hleft hx hst hlen => step_of_raises hs hm
    ((PlaysFrom.swapped (Nat.not_le.2 hleft) hx hst).raises_emptyRange hlen.le)

/-- Settles O35, in the active range and in the one a swap would make active. -/
theorem tickSplitSampleFaults : Obligations.TickSplitSampleFaults := by
  intro s hs hm hleft hbps hone
  have hleft' : ¬sizePlayed s := Nat.not_le.2 hleft
  refine step_of_raises hs hm ?_
  obtain hone | ⟨hx, hst, hone⟩ := hone
  · exact (PlaysFrom.active hleft' (by omega)).raises_splitSample hbps hone
  · exact (PlaysFrom.swapped hleft' hx hst).raises_splitSample hbps (by simpa using hone)

/-- Settles O36, in the active range and in the one a swap would make active. -/
theorem tickCounterWrapFaults : Obligations.TickCounterWrapFaults := by
  intro s hs hm hbps hsize hplayed hfits
  have hw := sampleWidth_of_16 hbps
  have hleft : ¬sizePlayed s := by rw [sizePlayed, hsize, hplayed]; decide
  have hwrap : 2 ^ 32 ≤ s.fifo.played.toNat + sampleWidth s := by rw [hplayed, hw]; decide
  refine step_of_raises hs hm ?_
  obtain hfits | ⟨hx, hst, hfits⟩ := hfits
  · exact (PlaysFrom.active hleft (by omega)).raises_playedWrap (by rwa [hw]) hwrap
  · exact (PlaysFrom.swapped hleft hx hst).raises_playedWrap (by simpa [hw] using hfits) hwrap

end Sys2Proof.Machine
end

section
/-! SUPPORT. Who touches the SD bus (43_emitter.md R256, R257, 42_fifo_refill.md R222): a step that leaves the card
alone, and that every step outside INIT and READP is one. -/

namespace Sys2Proof.Machine

/-- The step leaves `SD_CS`, `CT` and the card's answers, and records no SD bus event. -/
def LeavesCard (s t : State) : Prop :=
  t.sdCs = s.sdCs ∧ t.ct = s.ct ∧ t.env.card = s.env.card ∧
    ∃ events, t.hist = s.hist ++ events ∧ events.all (fun e => !isSdEvent e) = true

section
variable {s t : State}

/-- A step that records these events, none of them the bus's. -/
theorem LeavesCard.of_events (events : List Event) (hist : t.hist = s.hist ++ events)
    (quiet : events.all (fun e => !isSdEvent e) = true) (sdCs : t.sdCs = s.sdCs := by rfl)
    (ct : t.ct = s.ct := by rfl) (card : t.env.card = s.env.card := by rfl) : LeavesCard s t :=
  ⟨sdCs, ct, card, events, hist, quiet⟩

/-- A step without an event. -/
theorem LeavesCard.silent (hist : t.hist = s.hist := by rfl) (sdCs : t.sdCs = s.sdCs := by rfl)
    (ct : t.ct = s.ct := by rfl) (card : t.env.card = s.env.card := by rfl) : LeavesCard s t :=
  .of_events [] (by simp [hist]) rfl sdCs ct card

theorem LeavesCard.trans {u : State} (h : LeavesCard s t) (h' : LeavesCard t u) : LeavesCard s u := by
  obtain ⟨hcs, hct, hcard, events, hhist, hquiet⟩ := h
  obtain ⟨hcs', hct', hcard', events', hhist', hquiet'⟩ := h'
  refine ⟨hcs'.trans hcs, hct'.trans hct, hcard'.trans hcard, events ++ events', ?_, ?_⟩
  · rw [hhist', hhist, List.append_assoc]
  · rw [List.all_append, hquiet, hquiet', Bool.and_true]

end

/-! ## The shared operations -/

theorem takeTurn_leavesCard (s : State) : LeavesCard s (takeTurn s) :=
  .silent (takeTurn_hist s) (takeTurn_sdCs s) (takeTurn_ct s) (takeTurn_env_card s)

theorem finish_leavesCard (code : Byte) (s : State) : LeavesCard s (finish code s) :=
  .of_events [.done s.op code] rfl rfl

theorem arm_leavesCard (s : State) : LeavesCard s (arm s) := .of_events [.arm] rfl rfl

theorem disarm_leavesCard (s : State) : LeavesCard s (disarm s) := .of_events [.disarm] rfl rfl

theorem fileRead_leavesCard (k : BufId) (n : Nat) (s : State) : LeavesCard s (fileRead k n s) :=
  .of_events [.fileRead k n (fileAnswer k n s)] rfl rfl

/-- A file read and the write of `LEN` after it. -/
theorem setLen_fileRead_leavesCard (k : BufId) (n len : Nat) (s : State) :
    LeavesCard s (setLen k len (fileRead k n s)) :=
  (fileRead_leavesCard k n s).trans .silent

/-- EMT drives the DAC lines only (43_emitter.md R256). -/
theorem emit_leavesCard (w : Half) (s : State) : LeavesCard s (emit w s) :=
  .of_events [.dacFrame w] rfl rfl

theorem hostRead_leavesCard (n : Byte) (s : State) : LeavesCard s (hostRead n s) := by
  unfold hostRead
  split <;> exact .silent

/-- An issue records Issue, and no bus action (60_exceptions.md R300). -/
theorem exec_leavesCard_of_hostop {i : Instr} {s t : State} (hp : i.port = .hostop)
    (h : exec i s = .next t) : LeavesCard s t := by
  obtain ⟨op, l, hi⟩ := exec_of_hostop s hp
  obtain ⟨-, -, -, rfl⟩ := issue_next (hi ▸ h)
  exact .of_events [.issue (hostOpCode op) (encode i).tail] rfl rfl

/-! ## CTL's steps outside INIT and READP -/

theorem stepStart_leavesCard {op : HostOp} (s : State) (hinit : op ≠ .init) (hreadp : op ≠ .readp) :
    LeavesCard s (stepStart op s) := by
  cases op with
  | init => exact absurd rfl hinit
  | readp => exact absurd rfl hreadp
  | writepInit | writepAppend | writepFinal => exact .silent
  | loadfmt =>
    unfold stepStart stepLoadfmt
    split_ifs
    · exact .silent
    · exact .silent
    · exact .trans .silent (finish_leavesCard resOk _)
  | play =>
    unfold stepStart stepPlayStart
    split_ifs
    · exact .silent
    · exact finish_leavesCard resCallerMisuse s

theorem stepPrimeA_leavesCard (s : State) : LeavesCard s (stepPrimeA s) := by
  unfold stepPrimeA
  split
  next e _ => exact (fileRead_leavesCard _ _ s).trans (finish_leavesCard _ _)
  next bytes _ =>
    have hread := setLen_fileRead_leavesCard .bufA s.cfg.bufSize bytes.length s
    split_ifs
    · exact hread.trans (finish_leavesCard _ _)
    · exact hread.trans .silent

theorem stepPrimeB_leavesCard (s : State) : LeavesCard s (stepPrimeB s) := by
  unfold stepPrimeB
  split
  next e _ => exact (fileRead_leavesCard _ _ s).trans (finish_leavesCard _ _)
  next bytes _ => exact (setLen_fileRead_leavesCard _ _ bytes.length s).trans .silent

theorem stepLoopPlayed_leavesCard (s : State) : LeavesCard s (stepLoopPlayed s) := by
  unfold stepLoopPlayed
  split_ifs
  · exact (disarm_leavesCard s).trans (finish_leavesCard _ _)
  · exact .silent

theorem stepLoopStatus_leavesCard (s : State) : LeavesCard s (stepLoopStatus s) := by
  unfold stepLoopStatus
  split_ifs <;> exact .silent

theorem stepRefill_leavesCard (b : BufId) (s : State) : LeavesCard s (stepRefill b s) := by
  unfold stepRefill
  split
  next e _ => exact (fileRead_leavesCard _ _ s).trans .silent
  next bytes _ => exact (setLen_fileRead_leavesCard _ _ bytes.length s).trans .silent

/-- Every call of SendCmd but a frame sent by nobody is INIT's or READP's. -/
theorem retOp_init_or_readp {ret : Ret} (h : ret ≠ .solo) :
    retOp ret = some .init ∨ retOp ret = some .readp := by
  cases ret with
  | solo => exact absurd rfl h
  | readBlock => exact .inr rfl
  | _ => exact .inl rfl

/-- Outside INIT and READP, with no frame sent by nobody, CTL stands at no call of SendCmd. -/
theorem kontRet_eq_none {k : Kont} (hsolo : kontRet k ≠ some .solo)
    (hinit : kontOp k ≠ some .init) (hreadp : kontOp k ≠ some .readp) : kontRet k = none := by
  refine Option.eq_none_iff_forall_ne_some.2 fun ret hret => ?_
  rw [kontOp_of_call hret] at hinit hreadp
  obtain h | h := retOp_init_or_readp fun hs => hsolo (hs ▸ hret)
  · exact hinit h
  · exact hreadp h

/-- CTL's step at each of its points outside INIT and READP: idle, a first line, or PLAY's. -/
theorem ctlStep_leavesCard {s : State} (hcall : kontRet s.k = none)
    (hinit : kontOp s.k ≠ some .init) (hreadp : kontOp s.k ≠ some .readp) :
    LeavesCard s (ctlStep s) := by
  unfold ctlStep
  cases hk : s.k with rw [hk] at hcall hinit hreadp
  | send | dummy1 | select | dummy2 | transmit | poll => cases hcall
  | clocks | tail => exact absurd rfl hinit
  | token | payload => exact absurd rfl hreadp
  | releaseDesel e | releaseDummy e =>
    cases e with
    | init => exact absurd rfl hinit
    | readp => exact absurd rfl hreadp
  | start op =>
    exact stepStart_leavesCard s (fun h => hinit (congrArg some h)) fun h => hreadp (congrArg some h)
  | idle | primeSet | refillReady => exact .silent
  | primeA => exact stepPrimeA_leavesCard s
  | primeB => exact stepPrimeB_leavesCard s
  | primeArm => exact (arm_leavesCard s).trans .silent
  | loopPlayed => exact stepLoopPlayed_leavesCard s
  | loopStatus => exact stepLoopStatus_leavesCard s
  | refill b => exact stepRefill_leavesCard b s
  | playFail e => exact (disarm_leavesCard s).trans (finish_leavesCard _ _)

/-! ## The statement -/

/-- Settles O49: HOST's and EMT's steps leave the card, and so does CTL where it stands at no call of SendCmd. -/
theorem onlyInitAndReadpTouchTheCard : Obligations.OnlyInitAndReadpTouchTheCard := by
  intro s t ⟨_, hop, hsolo⟩ h hother
  have hctl (hm : mover s = some .ctl) :
      kontRet s.k = none ∧ kontOp s.k ≠ some .init ∧ kontOp s.k ≠ some .readp := by
    obtain ⟨hinit, hreadp⟩ := hother.resolve_left fun hne => hne hm
    rw [hop] at hinit hreadp
    exact ⟨kontRet_eq_none hsolo hinit hreadp, hinit, hreadp⟩
  refine (takeTurn_leavesCard s).trans ?_
  have hline : LeavesCard (takeTurn s) (popLine (takeTurn s)) := .silent
  obtain ⟨-, -, hread | hreserved | hissue | hframe | hown | hack | hfault | hemit⟩ :=
    step_next_cases h
  · obtain ⟨-, n, _, -, rfl⟩ := hread
    exact hline.trans (hostRead_leavesCard n _)
  · obtain ⟨-, bytes, _, code, -, -, rfl⟩ := hreserved
    exact hline.trans (.of_events [.issue code bytes.tail] rfl rfl)
  · obtain ⟨-, _, _, _, -, hd, hx⟩ := hissue
    exact hline.trans (exec_leavesCard_of_hostop (decodeWord_port hd) hx)
  · obtain ⟨hm, frame, ret, _, hk, -, -⟩ := hframe
    have hcall := (hctl hm).1
    rw [hk] at hcall
    cases hcall
  · obtain ⟨hm, -, rfl⟩ := hown
    rw [← takeTurn_k s] at hctl
    obtain ⟨hcall, hinit, hreadp⟩ := hctl hm
    exact ctlStep_leavesCard hcall hinit hreadp
  · obtain ⟨-, -, rfl⟩ := hack
    exact .silent
  · obtain ⟨-, _, -, rfl⟩ := hfault
    exact .silent
  · obtain ⟨-, w, -, rfl⟩ := hemit
    exact .trans .silent (emit_leavesCard w (tickCommit (takeTurn s)))

end Sys2Proof.Machine
end

section
/-! SUPPORT. Stops and issues (60_exceptions.md R288 to R305): which agent moves, where the machine and an instruction
stop, what an issue writes, and what no instruction changes. -/

namespace Sys2Proof.Machine

/-! ## What exec leaves unchanged -/

/-- Everything an instruction that answers a next state can have done: begun a frame at a call of SendCmd, emitted a
frame word, or issued an operation. -/
theorem exec_next_cases {i : Instr} {s t : State} (h : exec i s = .next t) :
    (i.port = .sdcmd48 ∧ ∃ called ret, s.k = .send called ret ∧
      t = goto (.dummy1 (encode i) ret) (csDeassert s)) ∨
    (i.port = .dac16 ∧ ∃ w, t = emit w s) ∨
    (i.port = .hostop ∧ NoFault s ∧ s.busy = false ∧ ∃ op l, t = issued i op l s) := by
  cases hp : i.port with
  | sdcmd48 =>
    rw [exec_of_sdcmd48 s hp] at h
    exact .inl ⟨rfl, beginFrame_next h⟩
  | dac16 =>
    obtain ⟨w, hw⟩ := exec_of_dac16 s hp
    rw [hw] at h
    injection h with h
    exact .inr (.inl ⟨rfl, w, h.symm⟩)
  | hostop =>
    obtain ⟨op, l, hi⟩ := exec_of_hostop s hp
    obtain ⟨hf, hr, hb, ht⟩ := issue_next (hi ▸ h)
    exact .inr (.inr ⟨rfl, ⟨hf, hr⟩, hb, op, l, ht⟩)

/-- Settles O21, by port: a frame drives `SD_CS` and moves CTL, DAC_WRITE drives the DAC lines, and an issue sets
`BUSY`, `OP`, the latches and CTL's point. -/
theorem execFrame : Obligations.ExecFrame := by
  intro i s t h
  obtain ⟨hp, called, ret, -, rfl⟩ | ⟨hp, w, rfl⟩ | ⟨hp, -, -, op, l, rfl⟩ := exec_next_cases h
  · simp [hp]
  · simp [hp]
  · simp [hp, issued]

/-! ## Which agent moves -/

/-- The agent the schedule names moves, if it has a step: there is no priority (R288). -/
theorem mover_of_named {s : State} {a : Agent} {later : List Agent}
    (hsched : s.env.sched = a :: later) (ha : hasStep s a = true) : mover s = some a := by
  have hmem : a ∈ enabledAgents s := List.mem_filter.2 ⟨by cases a <;> decide, ha⟩
  cases he : enabledAgents s with
  | nil => rw [he] at hmem; cases hmem
  | cons b more => simp only [mover, he, hsched, pick, ha, if_true]

/-- Which agents have a step does not depend on the schedule. -/
theorem hasStep_sched (s : State) (a : Agent) (sched : List Agent) :
    hasStep { s with env := { s.env with sched := sched } } a = hasStep s a := by
  cases a <;> rfl

/-- Settles O8: an agent with a step still has one under the schedule that names it. -/
theorem anyEnabledAgentMayMove : Obligations.AnyEnabledAgentMayMove := by
  intro s a later ha
  exact mover_of_named rfl ((hasStep_sched s a (a :: later)).trans ha)

/-! ## Where the machine stops -/

theorem step_of_fault {s : State} (hf : s.fault ≠ []) : step s = .fault .stopped := by
  simp only [step, fetch, if_pos hf]

theorem step_of_refused {s : State} (hf : s.fault = []) (hr : s.refused ≠ none) :
    step s = .refused .stopped := by
  simp only [step, fetch, if_neg (not_not.2 hf), if_pos hr]

/-- Settles O9: the fetch stops before it asks who moves, or finds no agent that can. -/
theorem whereTheMachineStops : Obligations.WhereTheMachineStops := by
  intro s
  exact ⟨step_of_fault, step_of_refused, fun hs hnone => step_of_no_mover hs (mover_eq_none hnone)⟩

/-! ## Issuing an operation -/

/-- Settles O18: each host operation is its issue, with the latches it uses. -/
theorem hostOperationsIssue : Obligations.HostOperationsIssue := by
  intro s sector dest n src len rate size offset count destEn bps ⟨hf, hr⟩ hb
  have hissue (i : Instr) (op : HostOp) (l : Latches) : issue i op l s = .next (issued i op l s) :=
    issue_of_ready i op l hf hr hb
  exact ⟨hissue .init _ _, hissue (.readp sector offset count destEn dest) _ _,
    hissue (.writepInit n) _ _, hissue (.writepAppend src len) _ _, hissue .writepFinal _ _,
    hissue (.loadfmt bps rate size) _ _, hissue .play _ _⟩

section
variable {i : Instr} {op : HostOp} {l : Latches} {s : State}

theorem issue_of_fault (hf : s.fault ≠ []) : issue i op l s = .fault .stopped := if_pos hf

theorem issue_of_refused (hf : s.fault = []) (hr : s.refused ≠ none) :
    issue i op l s = .refused .stopped := by
  rw [issue, if_neg (not_not.2 hf), if_pos hr]

theorem issue_of_busy (hs : NoFault s) (hb : s.busy = true) : issue i op l s = .fault .hostBusy := by
  obtain ⟨hf, hr⟩ := hs
  rw [issue, if_neg (not_not.2 hf), if_neg (not_not.2 hr), if_pos hb]

end

/-- Away from a call of SendCmd no frame begins (40_framer_and_init.md R120). -/
theorem beginFrame_of_no_call {s : State} (frame : List Byte)
    (hk : ∀ called ret, s.k ≠ .send called ret) : beginFrame frame s = .fault .frameNotCalled := by
  unfold beginFrame
  split
  next called ret hs => exact absurd hs (hk called ret)
  next => rfl

theorem hasStep_host_iff (s : State) :
    hasStep s .host = true ↔ s.env.program ≠ [] ∧ s.busy = false := by
  simp [hasStep, hostHasStep]

/-- Settles O19: exec of a host operation is an issue, and exec of a command frame begins it. -/
theorem whereExecStops : Obligations.WhereExecStops := by
  intro i s
  refine ⟨fun hp hf => ?_, fun hp hf hr => ?_, fun hp hs hb => ?_, fun _ => hasStep_host_iff s,
    fun hp hk => ?_⟩
  · obtain ⟨op, l, hi⟩ := exec_of_hostop s hp
    exact hi.trans (issue_of_fault hf)
  · obtain ⟨op, l, hi⟩ := exec_of_hostop s hp
    exact hi.trans (issue_of_refused hf hr)
  · obtain ⟨op, l, hi⟩ := exec_of_hostop s hp
    exact hi.trans (issue_of_busy hs hb)
  · exact (exec_of_sdcmd48 s hp).trans (beginFrame_of_no_call _ hk)

end Sys2Proof.Machine
end

section
/-! SUPPORT. The state after reset (70_reset_and_hazards.md R320, R326): its registers, and every invariant. -/

namespace Sys2Proof.Machine

/-! ## The invariants -/

theorem cardTypeInv_reset : CardTypeInv State.reset := ⟨.inl rfl, nofun⟩

/-- CTL is idle, and neither `BUSY` nor `OP` says otherwise. -/
theorem operationInv_reset : OperationInv State.reset := ⟨rfl, rfl, nofun⟩

theorem timerInv_reset : TimerInv State.reset := ⟨operationInv_reset, rfl⟩

/-- No playback is set up, so nothing is asked of the cursor's range. -/
theorem playRange_reset : playRange State.reset := by
  rintro (hprimed | harmed)
  · cases hprimed
  · cases harmed

/-- Both buffers are empty. -/
theorem streamInv_reset : StreamInv State.reset :=
  ⟨timerInv_reset, Nat.zero_le _, Nat.zero_le _, le_rfl, Nat.zero_le _, .inl rfl, playRange_reset,
    trivial⟩

theorem frameInv_reset : FrameInv State.reset := ⟨operationInv_reset, trivial⟩

/-- The parameters reset holds, R7's defaults, meet R7's constraints; their map is the Full one. -/
theorem default_wf : Params.default.wf := by
  refine ⟨?_, ?_, ?_, ?_, rfl, rfl, ?_, .inl rfl⟩ <;> decide

/-! ## The statements -/

/-- Settles O58: nothing is in progress, armed or stored, and the parameters are R7's defaults. -/
theorem resetMeetsEveryInvariant : Obligations.ResetMeetsEveryInvariant :=
  ⟨⟨.nil, .nil, .nil⟩, cardTypeInv_reset, ⟨operationInv_reset, fun _ => rfl⟩, streamInv_reset,
    frameInv_reset, default_wf⟩

/-- Settles O59: each register is read off `State.reset`; a buffer that lists no byte has a value nowhere. -/
theorem resetValues : Obligations.ResetValues :=
  ⟨rfl, rfl, rfl, rfl, rfl, rfl, rfl, Memory.read_nil, Memory.read_nil, rfl, rfl, rfl, rfl, rfl,
    rfl, rfl, rfl, rfl, rfl, rfl, rfl, rfl, rfl⟩

end Sys2Proof.Machine
end

section
/-! SUPPORT. READP's end within its budgets (41_block_read.md R172 to R176; 70_reset_and_hazards.md R337): the steps CTL
still takes from each point, from the release back to the issue, whatever the card answers. -/

namespace Sys2Proof.Machine

/-! ## READP's results -/

/-- READP's five result codes (R176). -/
def readpResults : List Byte := [0x00#8, 0x11#8, 0x12#8, 0x13#8, 0x14#8]

theorem cmd17Failure_mem_readpResults (r : Byte) : cmd17Failure r ∈ readpResults := by
  unfold cmd17Failure
  split_ifs <;> decide

theorem tokenFailure_mem_readpResults (rc : Byte) : tokenFailure rc ∈ readpResults := by
  unfold tokenFailure
  split_ifs <;> decide

/-! ## The end within so many steps -/

/-- READP has ended as R176 has it, with the card deselected. -/
def ReadpOver (u : State) : Prop :=
  NoFault u ∧ Idle u ∧ u.sdCs = .deasserted ∧ u.result ∈ readpResults

/-- CTL alone brings READP to its end in at most `n` steps. -/
def ReadpEndsWithin (s : State) (n : Nat) : Prop := ∃ m u, m ≤ n ∧ Leads m s u ∧ ReadpOver u

theorem ReadpEndsWithin.mono {n n' : Nat} {s : State} (h : ReadpEndsWithin s n) (hle : n ≤ n') :
    ReadpEndsWithin s n' := by
  obtain ⟨m, u, hm, hl, hover⟩ := h
  exact ⟨m, u, hm.trans hle, hl, hover⟩

/-- A stretch of CTL's steps, and then the rest. -/
theorem ReadpEndsWithin.of_leads {m n : Nat} {s t : State} (h : ReadpEndsWithin t n)
    (hl : Leads m s t) : ReadpEndsWithin s (m + n) := by
  obtain ⟨j, u, hj, hrest, hover⟩ := h
  exact ⟨m + j, u, Nat.add_le_add_left hj m, hl.trans hrest, hover⟩

/-- One step of CTL, and then the rest. -/
theorem ReadpEndsWithin.cons {n : Nat} {s t : State} (h : ReadpEndsWithin t n) (hs : CtlAlone s)
    (hmoves : ctlHasStep s = true) (hcommand : CallsCommand s.k) (ht : ctlMove s = t) :
    ReadpEndsWithin s (n + 1) := by
  obtain ⟨m, u, hm, hl, hover⟩ := h
  exact ⟨m + 1, u, Nat.succ_le_succ hm, hl.cons hs hmoves hcommand ht, hover⟩

/-! ## From each point of READP, the last first -/

section
variable {s : State} (hs : CtlAlone s)
include hs

/-- The release (40_framer_and_init.md R124). -/
theorem readpEndsWithin_of_readEnd {code : Byte} (hk : s.k = readEnd code)
    (hcode : code ∈ readpResults) : ReadpEndsWithin s 2 :=
  ⟨2, _, le_rfl, leads_of_release hs hk, hs.1, ⟨rfl, rfl, hs.2.2⟩, rfl, hcode⟩

variable (hdest : DestAllowed s.cfg s.latch)
include hdest

/-- The 514 receives after the token, none of them stuck (R175). -/
theorem readpEndsWithin_of_payload (hk : s.k = .payload 0) : ReadpEndsWithin s 516 :=
  (readpEndsWithin_of_readEnd
      (s := storing _ _ (talked _ s.sdCs _ (s.env.card.drop 514) s)) hs rfl (by decide)).of_leads
    (leads_of_payload_answers hs hk hdest rfl)

/-- After the token poll's last byte (R174). -/
theorem readpEndsWithin_of_tokenByte {rc : Byte} (hk : s.k = afterToken 0 rc) :
    ReadpEndsWithin s 516 := by
  rw [afterToken_zero] at hk
  split_ifs at hk with htoken
  · exact readpEndsWithin_of_payload hs hdest hk
  · exact (readpEndsWithin_of_readEnd hs hk (tokenFailure_mem_readpResults rc)).mono (by decide)

/-- The token poll, within its budget: a receive decides, or leaves one less (R174). -/
theorem readpEndsWithin_of_token {left : Nat} (hk : s.k = .token left) :
    ReadpEndsWithin s (max 1 left + 516) := by
  induction left using Nat.strong_induction_on generalizing s with
  | _ left ih =>
    have hstep {n : Nat}
        (h : ReadpEndsWithin (goto (afterToken (left - 1) (rxByte s)) (rx s)) n) :
        ReadpEndsWithin s (n + 1) :=
      h.cons hs (by simp only [ctlHasStep, hk]) (.of_not_send (by simp [hk]))
        (by simp only [ctlMove, ctlStep, hk]; rfl)
    by_cases hend : rxByte s ≠ noTokenYet ∨ left - 1 = 0
    · rw [afterToken_of_ended hend] at hstep
      have hdecided : ReadpEndsWithin (goto (afterToken 0 (rxByte s)) (rx s)) 516 :=
        readpEndsWithin_of_tokenByte hs hdest rfl
      exact (hstep hdecided).mono (by omega)
    · obtain ⟨hrc, hleft⟩ := not_or.1 hend
      have hgoes : afterToken (left - 1) (rxByte s) = .token (left - 1) :=
        if_pos ⟨not_not.1 hrc, hleft⟩
      rw [hgoes] at hstep
      have hrest : ReadpEndsWithin (goto (.token (left - 1)) (rx s)) (max 1 (left - 1) + 516) :=
        ih (left - 1) (by omega) hs hdest rfl
      exact (hstep hrest).mono (by omega)

/-- After the return of CMD17's R1 (R173, R174). -/
theorem readpEndsWithin_of_afterReadBlock {r : Byte} (hk : s.k = afterReadBlock s.cfg r) :
    ReadpEndsWithin s (max 1 s.cfg.nToken + 516) := by
  unfold afterReadBlock at hk
  split_ifs at hk with hready
  · exact readpEndsWithin_of_token hs hdest hk
  · exact (readpEndsWithin_of_readEnd hs hk (cmd17Failure_mem_readpResults r)).mono (by omega)

/-- CMD17's R1 poll, within its budget: a receive returns the R1, or leaves one less (40_framer_and_init.md R122). -/
theorem readpEndsWithin_of_poll {left : Nat} (hk : s.k = .poll left .readBlock) :
    ReadpEndsWithin s (max 1 left + (max 1 s.cfg.nToken + 516)) := by
  induction left using Nat.strong_induction_on generalizing s with
  | _ left ih =>
    have hstep {n : Nat}
        (h : ReadpEndsWithin (goto (nextPoll s.cfg (left - 1) .readBlock (rxByte s)) (rx s)) n) :
        ReadpEndsWithin s (n + 1) :=
      h.cons hs (by simp only [ctlHasStep, hk]) (.of_not_send (by simp [hk]))
        (by simp only [ctlMove, ctlStep, hk]; rfl)
    by_cases hend : r1Valid (rxByte s) ∨ left - 1 = 0
    · rw [nextPoll, if_pos hend] at hstep
      have hreturned : ReadpEndsWithin
          (goto (afterReadBlock s.cfg (rxByte s)) (rx s)) (max 1 s.cfg.nToken + 516) :=
        readpEndsWithin_of_afterReadBlock hs hdest rfl
      exact (hstep hreturned).mono (by omega)
    · rw [nextPoll, if_neg hend] at hstep
      have hleft : left - 1 ≠ 0 := fun h => hend (.inr h)
      have hrest : ReadpEndsWithin (goto (.poll (left - 1) .readBlock) (rx s))
          (max 1 (left - 1) + (max 1 s.cfg.nToken + 516)) :=
        ih (left - 1) (by omega) hs hdest rfl
      exact (hstep hrest).mono (by omega)

/-- The call of CMD17: ten steps up to the poll (R145). -/
theorem readpEndsWithin_of_call {addr : Word}
    (hk : s.k = .send (frameCmd17 s.cfg addr) .readBlock) :
    ReadpEndsWithin s (sendBound s.cfg + (max 1 s.cfg.nToken + 516)) := by
  have hp : (Instr.cmd17 addr s.cfg.crcPlaceholder).port = .sdcmd48 := rfl
  have hlen : (frameCmd17 s.cfg addr).length = 6 := encode_length_of_sdcmd48 hp
  have hframe := leads_to_poll .readBlock hs (frame := frameCmd17 s.cfg addr) nofun
  have hcall := hframe.cons hs (ctlHasStep_of_call (by rw [hk]; rfl)) (hk ▸ .of_encode hp _)
    (ctlMove_of_send hk)
  rw [hlen, goto_exchanges] at hcall
  have hpoll (cs : Cs) (events : List Event) (rest : List Byte) :
      ReadpEndsWithin (talked (.poll s.cfg.nR1 .readBlock) cs events rest (bracketed s))
        (max 1 s.cfg.nR1 + (max 1 s.cfg.nToken + 516)) :=
    readpEndsWithin_of_poll (s := talked _ cs events rest (bracketed s)) hs hdest rfl
  exact ((hpoll _ _ _).of_leads hcall).mono (by rw [sendBound]; omega)

/-- READP's first line and all that follows it, where the checks pass (R170). -/
theorem readpEndsWithin_of_start (hk : s.k = .start .readp) (hct : s.ct ≠ ctNone)
    (hfits : ¬rangeTooLong s.latch) : ReadpEndsWithin s (readpBound s.cfg) := by
  obtain ⟨addr, hmove⟩ : ∃ addr, ctlMove s = goto (.send (frameCmd17 s.cfg addr) .readBlock) s := by
    simp only [ctlMove, ctlStep, hk, stepStart]
    exact ⟨_, (if_neg hct).trans (if_neg hfits)⟩
  have hcall : ReadpEndsWithin (goto (.send (frameCmd17 s.cfg addr) .readBlock) s)
      (sendBound s.cfg + (max 1 s.cfg.nToken + 516)) :=
    readpEndsWithin_of_call hs hdest rfl
  exact (hcall.cons hs (by simp only [ctlHasStep, hk]) (.of_not_send (by simp [hk])) hmove).mono
    (by rw [readpBound]; omega)

end

/-- Settles O41: the issue passes the checks, and CTL alone brings READP to its end. -/
theorem readpAlwaysEnds : Obligations.ReadpAlwaysEnds := by
  intro s sector dest offset count destEn hs hct hrange hdest
  have halone : CtlAlone (readpIssued sector offset count destEn dest s) :=
    ctlAlone_issued hs _ _ _
  obtain ⟨n, u, hn, hl, hfault, hidle, hcs, hresult⟩ :=
    readpEndsWithin_of_start halone hdest rfl hct (Nat.not_lt.2 hrange)
  exact ⟨_, n, _, issue_of_ready_eq_issued hs _ _ _, hn, hl.runs, hfault, hidle, hcs, hresult⟩

end Sys2Proof.Machine
end
